-- ==== Sys2Proof/Syntax.lean ====
section
/-! DEFINITION. The commands of the EV420: one constructor per row of spec/opcode_table.json, in the table's order.
A command that concerns a numbered part carries its number (file 00, 4.5). The rows of requests carry no operand: the command
unit takes the request, with its sequence number and payload, from the intake slot (R152, log 4). -/

namespace Sys2Proof

/-- The operations and events of the part, each one whole and indivisible step (file 95). -/
inductive Instr where
  /-- Power is applied, or RESETn is held low (R163). -/
  | powerOn
  /-- RESETn rises: the rate pins (RATE1 first), the 32 input pins, the STOP pin and RXD as they stand (R163). -/
  | resetRelease (rate : BitVec 2) (pins : BitVec 32) (stopPin rxd : Bool)
  /-- Pin INn comes to stand at `level` (R97, R98). -/
  | inputPinChange (channel : Nat) (level : Bool)
  /-- The filter time of a channel's qualification runs out (R97). -/
  | qualificationEnd (channel : Nat)
  /-- The STOP pin comes to stand at `level` (R54). -/
  | stopPinChange (level : Bool)
  /-- The STOP filter time runs out (R54). -/
  | stopQualificationEnd
  /-- The oldest occurrence of `source` on its way reaches the event unit (R5). -/
  | occurrenceArrival (source : Nat)
  /-- The oldest trigger naming `channel` on its way reaches the timer unit (R117). -/
  | triggerArrival (channel : Nat)
  /-- An interval timer's remaining time reaches 0 (R115, R116). -/
  | timerExpiry (timer : Nat)
  /-- The silence timer's remaining time reaches 0 (R62). -/
  | silenceExpiry
  /-- The delivery unit makes an offer (R33). -/
  | makeOffer
  /-- The take timer runs out (R37). -/
  | takeTimerExpiry
  /-- A character is received: its data, its parity bit, and whether its stop bit was high (R134, R135). -/
  | characterReceived (data : BitVec 8) (parity stop : Bool)
  /-- Two character times of low line pass (R135). -/
  | breakLimit
  /-- Twenty character times pass without a start bit (R141). -/
  | gapLimit
  /-- The command unit takes a duplicate (R160). -/
  | replay
  /-- The command unit takes a request of no known kind (R154). -/
  | badKind
  /-- The arbiter hands the transmitter a frame (R149). -/
  | arbiterChoice
  /-- The last character of the frame being sent has been sent (R148). -/
  | frameEnd
  | ping
  | setSource
  | getSource
  | maskList
  | clearSource
  | setDelivery
  | readStack
  | gate
  | take
  | done
  | setInput
  | readInputs
  | setTimer
  | getTimer
  | setTime
  | getTime
  | setRing
  | drainRing
  | discardRing
  | setOutputs
  | holdOutputs
  | releaseOutputs
  | setSafe
  | setStop
  | setSilence
  | restart
  /-- A start bit begins a character while the receiver is idle (R134, R141). -/
  | startBit
  /-- RXD returns high after a break, or after being low at reset release (R134, R135). -/
  | breakEnd
  deriving DecidableEq, Repr

end Sys2Proof
end

