-- ==== Sys2Proof/Config.lean ====
section
/-! DEFINITION. What the model leaves free, and the constants of the part that no request changes. -/

namespace Sys2Proof.Config

/-- DESIGN CHOICE (log 2). Which of several steps that the spec lets be taken in either order (R32, R45, R63, R118, R121,
R149, ...) the block takes by itself on an empty queue. It has no body: nothing can be proved of its values. It is
applied to the number of choices made so far. -/
opaque freeChoice : Nat → Nat

/-- The part's revision code, reported by PING and by the START notice (R162, R164). -/
def revision : Nat := 2

/-- The number of entries the service stack may hold for sources 0 to 39 (R24, R29). -/
def maskableStackLimit : Nat := 6

/-- The number of records a capture ring has room for (R70). -/
def ringCapacity : Nat := 64

/-- The number of frames the reply queue holds, and of answers the reply log keeps (R158, R159). -/
def replyCapacity : Nat := 4

/-- The longest payload of a frame (R136). -/
def maxPayload : Nat := 80

end Sys2Proof.Config
end

