-- ==== Sys2Proof/Word.lean ====
section
/-! DEFINITION. The words of the EV420's line and the fixed-size tables its units hold. -/

namespace Sys2Proof

/-- One byte of a frame (R136). -/
abbrev Byte := BitVec 8

/-- A reading of the time base: 32 bits, in microseconds, wrapping (R109). -/
abbrev Time := BitVec 32

/-- A fixed number of like things (42 sources, 32 channels, 4 timers, 4 rings), numbered from 0. -/
structure Table (n : Nat) (α : Type) where
  /-- The rows, number 0 first. -/
  toList : List α
  /-- There are exactly `n` rows. -/
  size_eq : toList.length = n
  deriving DecidableEq, Repr

namespace Table

variable {n : Nat} {α β : Type}

/-- Row `i`. -/
def get (t : Table n α) (i : Fin n) : α :=
  t.toList[i.val]'(by rw [t.size_eq]; exact i.isLt)

/-- The table with row `i` replaced. -/
def set (t : Table n α) (i : Fin n) (a : α) : Table n α :=
  ⟨t.toList.set i.val a, by rw [List.length_set, t.size_eq]⟩

/-- Every row changed in the same way. -/
def map (t : Table n α) (f : α → β) : Table n β :=
  ⟨t.toList.map f, by rw [List.length_map, t.size_eq]⟩

/-- The table whose row `i` is `f i`. -/
def ofFn (f : Fin n → α) : Table n α :=
  ⟨List.ofFn f, List.length_ofFn⟩

end Table

end Sys2Proof
end

