-- ==== Sys2Proof/Machine/State.lean ====
section
/-! DEFINITION. The state of the EV420, unit by unit (file 00, 2.1), as plain data, and its values after reset. -/

namespace Sys2Proof.Machine

/-! ### Event unit (chapter 1) -/

/-- The mask of a source (R2, R13). -/
inductive Mask where
  | masked
  | unmasked
  deriving DecidableEq, Repr

/-- A delivery level: 0 (most urgent) to 3 for sources 0 to 39, U for 40 and 41 (R2, R14). -/
inductive Level where
  | level0
  | level1
  | level2
  | level3
  | urgent
  deriving DecidableEq, Repr

/-- Whether unmasked occurrences of a source latch or go to a capture ring (R2, R5). -/
inductive Mode where
  | report
  | capture
  deriving DecidableEq, Repr

/-- Why a source is pending (R2, R10). -/
inductive Cause where
  | occurrence
  | budgetEnd
  | ringFull
  deriving DecidableEq, Repr

/-- The account of a pending source, or of an offer: what has happened since the source became pending (R2, R6, R23). -/
structure Account where
  /-- Repeat count, 1 to 255. -/
  count : Nat
  cause : Cause
  /-- Timestamp of the occurrence that made the source pending. -/
  first : Time
  /-- Timestamp of the most recent occurrence; absent while the count is 1. -/
  last : Option Time
  deriving DecidableEq, Repr

/-- A source record (R2). The source is pending while it holds an account, and its repeat count is then the account's. -/
structure SourceRecord where
  mask : Mask
  level : Level
  mode : Mode
  ring : Fin 4
  /-- Records the source may still append, 0 to 255. -/
  budget : Nat
  account : Option Account
  deriving DecidableEq, Repr

/-- One event at one source, with what it carries (R4): an accepted edge (rising or falling, its time, the 32 filtered levels
after it), a timer's expiry (its time), a ring's watermark crossing (its time), STOP active, or the silence expiry. -/
inductive Occurrence where
  | edge (channel : Fin 32) (rising : Bool) (time : Time) (levels : BitVec 32)
  | expiry (timer : Fin 4) (time : Time)
  | crossing (ring : Fin 4) (time : Time)
  | stop
  | silence
  deriving DecidableEq, Repr

/-- An occurrence on its way to the event unit, and the microseconds since it arose: at most 1 (R4, log 5). -/
structure OccurrenceInTransit where
  occurrence : Occurrence
  age : Nat
  deriving DecidableEq, Repr

structure EventUnit where
  /-- The source table: one record for each source 0 to 41 (R1). -/
  sources : Table 42 SourceRecord
  /-- Occurrences that have arisen and not yet arrived, oldest first (R4, log 5). -/
  arriving : List OccurrenceInTransit
  deriving DecidableEq, Repr

/-! ### Delivery unit (chapter 2) -/

/-- The delivery gate (R26). -/
inductive Gate where
  | closed
  | opened
  deriving DecidableEq, Repr

/-- The service phase of a stack entry (R23). -/
inductive ServicePhase where
  | offered
  | taken
  deriving DecidableEq, Repr

/-- The delivery state (R41). -/
inductive DeliveryState where
  | delivering
  | suspended
  deriving DecidableEq, Repr

/-- An entry of the service stack (R23). -/
structure Entry where
  source : Fin 42
  level : Level
  phase : ServicePhase
  notice : Byte
  savedGate : Gate
  /-- EVENT notices queued for this offer, the first included: 1 to 8. -/
  attempts : Nat
  account : Account
  deriving DecidableEq, Repr

/-- What an EVENT notice carries, fixed when it is placed (R35). -/
structure EventNotice where
  notice : Byte
  attempt : Nat
  source : Fin 42
  level : Level
  account : Account
  /-- Depth of the stack after the push that made the entry. -/
  depth : Nat
  deriving DecidableEq, Repr

structure DeliveryUnit where
  /-- The service stack, INNERMOST entry first (R23, R24). -/
  stack : List Entry
  gate : Gate
  mode : DeliveryState
  /-- The notice number of the next offer (R34). -/
  noticeCounter : Byte
  /-- The take timer: the microseconds that remain, or `none` while it is stopped (R37). -/
  takeTimer : Option Nat
  /-- In units of 4 ms, 1 to 255 (R50). -/
  takeTimeout : Nat
  retryLimit : Nat
  reentry : Bool
  deriving DecidableEq, Repr

/-! ### Protection unit (chapter 3) -/

structure ProtectionUnit where
  stopEnable : Bool
  /-- The STOP active level: `true` is high. -/
  stopActiveLevel : Bool
  stopCode : Fin 8
  /-- The STOP active condition (R56). -/
  stopActive : Bool
  /-- In units of 10 ms; 0 is off. -/
  silenceTimeout : Nat
  /-- The silence timer: the microseconds that remain, or `none` while it is STOPPED (R61). -/
  silenceTimer : Option Nat
  deriving DecidableEq, Repr

/-! ### Capture unit (chapter 4) -/

/-- The kind of a captured occurrence (R4, R75). -/
inductive EventKind where
  | rise
  | fall
  | expiry
  deriving DecidableEq, Repr

/-- A capture record (R75). -/
structure CaptureRecord where
  sequence : BitVec 16
  source : Fin 42
  kind : EventKind
  time : Time
  /-- The 32 filtered levels (bit n is channel n), present when the snapshot option was on at the append (R76). -/
  snapshot : Option (BitVec 32)
  deriving DecidableEq, Repr

/-- A capture ring (R70). Its fill is the length of `records`. -/
structure Ring where
  /-- Oldest first. -/
  records : List CaptureRecord
  counter : BitVec 16
  snapshot : Bool
  /-- 0 is off. -/
  watermark : Nat
  deriving DecidableEq, Repr

structure CaptureUnit where
  rings : Table 4 Ring
  deriving DecidableEq, Repr

/-! ### Input unit (chapter 5, and 3.2 for STOP) -/

/-- The edge select of a channel (R94). -/
inductive EdgeSelect where
  | none
  | rise
  | fall
  | both
  deriving DecidableEq, Repr

/-- An input channel (R94). Levels: `true` is high. -/
structure Channel where
  raw : Bool
  filtered : Bool
  edge : EdgeSelect
  code : Fin 8
  /-- The qualification in progress, as the microseconds since its start or restart (log 14). -/
  qualifying : Option Nat
  deriving DecidableEq, Repr

/-- The STOP pin (R54). -/
structure StopPin where
  raw : Bool
  filtered : Bool
  qualifying : Option Nat
  deriving DecidableEq, Repr

structure InputUnit where
  channels : Table 32 Channel
  stop : StopPin
  deriving DecidableEq, Repr

/-! ### Timer unit (chapter 6) -/

/-- The mode of an interval timer (R113). -/
inductive TimerMode where
  | off
  | once
  | repeating
  | onTrigger
  deriving DecidableEq, Repr

/-- The phase of an interval timer (R113). -/
inductive TimerPhase where
  | stopped
  | running
  | waiting
  deriving DecidableEq, Repr

/-- An interval timer (R113). -/
structure IntervalTimer where
  mode : TimerMode
  phase : TimerPhase
  /-- In units of 100 microseconds. -/
  period : Nat
  /-- In microseconds; 0 while not RUNNING. -/
  remaining : Nat
  trigger : Option (Fin 32)
  deriving DecidableEq, Repr

/-- A trigger on its way to the timer unit, and the microseconds since the acceptance that made it (R4, R102, log 5). -/
structure TriggerInTransit where
  channel : Fin 32
  age : Nat
  deriving DecidableEq, Repr

structure TimerUnit where
  timeBase : Time
  timers : Table 4 IntervalTimer
  arriving : List TriggerInTransit
  deriving DecidableEq, Repr

/-! ### Output unit (chapter 7) -/

/-- The output state (R123). -/
inductive OutputState where
  | live
  | safeHeld
  deriving DecidableEq, Repr

/-- A hold cause (R123). -/
inductive HoldCause where
  | start
  | stop
  | silence
  | host
  deriving DecidableEq, Repr

/-- The hold-cause set: each cause is in it or not (R123). -/
structure HoldCauses where
  start : Bool
  stop : Bool
  silence : Bool
  host : Bool
  deriving DecidableEq, Repr

structure OutputUnit where
  /-- Bit n is line n; 1 is high. -/
  livePattern : Byte
  safePattern : Byte
  mode : OutputState
  causes : HoldCauses
  deriving DecidableEq, Repr

/-! ### Command unit (chapter 9) -/

/-- A request in the intake slot: the kind, sequence and payload of one valid frame (R144). -/
structure Request where
  kind : Byte
  sequence : Byte
  payload : List Byte
  deriving DecidableEq, Repr

/-- A link condition the notes set may hold (R146). -/
inductive Note where
  | parity
  | framing
  | breakLine
  | gap
  | length
  | crc
  | overrun
  | resumed
  deriving DecidableEq, Repr

/-- The notes set: each note is in it or not (R146). -/
structure Notes where
  parity : Bool
  framing : Bool
  breakLine : Bool
  gap : Bool
  length : Bool
  crc : Bool
  overrun : Bool
  resumed : Bool
  deriving DecidableEq, Repr

/-- An answer as it is built, without its notes set (R159): a REPLY (the kind answered, and the data of R171 from offset 2)
or a REFUSED (the kind as received, the refusal code, the detail byte). -/
inductive Answer where
  | reply (kind : Byte) (data : List Byte)
  | refused (kind code detail : Byte)
  deriving DecidableEq, Repr

/-- A REPLY or REFUSED frame, with the notes set it took when it was queued (R147, R157). -/
structure AnswerFrame where
  sequence : Byte
  answer : Answer
  notes : Notes
  deriving DecidableEq, Repr

/-- An entry of the reply log (R159). -/
structure LogEntry where
  sequence : Byte
  answer : Answer
  deriving DecidableEq, Repr

/-- The last reset cause (R151). -/
inductive ResetCause where
  | power
  | restart
  deriving DecidableEq, Repr

/-- What the START notice carries, fixed when it is raised; the revision is constant (R150, R164). -/
structure StartNotice where
  cause : ResetCause
  outputState : OutputState
  causes : HoldCauses
  stopActive : Bool
  deriving DecidableEq, Repr

structure CommandUnit where
  /-- Oldest first, at most 4 (R158). -/
  replyQueue : List AnswerFrame
  /-- Oldest first, at most 4 (R159). -/
  replyLog : List LogEntry
  /-- Whether the restart window is open (R165). -/
  window : Bool
  lastReset : ResetCause
  /-- The START notice while it waits for the arbiter (R150). -/
  startNotice : Option StartNotice
  deriving DecidableEq, Repr

/-! ### Link unit (chapter 8) -/

/-- The receiver at the level of the line (R134, R135): waiting for RXD to be high (in a break, or since a reset release with
RXD low), idle, or in a character since a start bit, with the time gone by since then in line units (log 10). -/
inductive LineState where
  | waitingHigh
  | idle
  | inCharacter (elapsed : Nat)
  deriving DecidableEq, Repr

/-- The receiver at the level of frames (R138). -/
inductive FrameState where
  | hunting
  | assembling
  deriving DecidableEq, Repr

/-- A frame the part sends, from one of its three places (R149). -/
inductive OutFrame where
  | start (notice : StartNotice)
  | answer (frame : AnswerFrame)
  | event (notice : EventNotice)
  deriving DecidableEq, Repr

/-- The frame being sent, and the time since its start in line units (R148, log 10). -/
structure Sending where
  frame : OutFrame
  elapsed : Nat
  deriving DecidableEq, Repr

structure LinkUnit where
  /-- RATE1, RATE0 as read at reset release (R133). -/
  rate : BitVec 2
  line : LineState
  frame : FrameState
  /-- The assembly buffer: the bytes received of the frame, in order (R138). -/
  buffer : List Byte
  /-- The interval since the last character of the frame, in line units (R141, log 10). -/
  gap : Nat
  intake : Option Request
  notes : Notes
  /-- The notice slot: the EVENT notice that waits (R36). -/
  noticeSlot : Option EventNotice
  /-- The transmitter: free, or sending one frame (R148). -/
  sending : Option Sending
  deriving DecidableEq, Repr

/-! ### The machine -/

/-- The whole state. -/
structure State where
  /-- RESETn is low, or reset release has not come yet (R163). -/
  held : Bool
  input : InputUnit
  timer : TimerUnit
  event : EventUnit
  capture : CaptureUnit
  delivery : DeliveryUnit
  protection : ProtectionUnit
  output : OutputUnit
  link : LinkUnit
  command : CommandUnit
  /-- The model's own: how many free choices have been made (log 2). -/
  choices : Nat
  /-- The model's own: the commands that wait, first in first out. -/
  pending : List Instr
  deriving DecidableEq, Repr

/-- No event of the spec stops the part: the model has no fault. -/
inductive Fault where
  deriving DecidableEq, Repr

/-- The only refusal a model of this interface must be able to name. -/
inductive Refusal where
  /-- Raised by an arm of `exec` for a command that has no meaning yet. No arm raises it: every command has one. Safe. -/
  | notModelled (mnemonic : String)
  deriving DecidableEq, Repr

/-! ### Values after reset -/

/-- The power-on and restart value of a source record (R3). -/
def SourceRecord.reset (source : Fin 42) : SourceRecord :=
  if source.val < 40 then
    { mask := .masked, level := .level3, mode := .report, ring := 0, budget := 0, account := none }
  else
    { mask := .unmasked, level := .urgent, mode := .report, ring := 0, budget := 0, account := none }

/-- The event unit after power-on and after restart (R3, R4). -/
def EventUnit.reset : EventUnit :=
  { sources := .ofFn SourceRecord.reset, arriving := [] }

/-- The delivery unit after power-on and after restart (R52). -/
def DeliveryUnit.reset : DeliveryUnit :=
  { stack := [], gate := .closed, mode := .delivering, noticeCounter := 0, takeTimer := none, takeTimeout := 25,
    retryLimit := 3, reentry := false }

/-- The protection unit at power-on (R53); STOP active is decided at reset release (log 19). -/
def ProtectionUnit.reset : ProtectionUnit :=
  { stopEnable := true, stopActiveLevel := false, stopCode := 3, stopActive := false, silenceTimeout := 0,
    silenceTimer := none }

/-- A capture ring after power-on and after restart (R74). -/
def Ring.reset : Ring :=
  { records := [], counter := 0, snapshot := false, watermark := 0 }

/-- The capture unit after power-on and after restart (R74). -/
def CaptureUnit.reset : CaptureUnit :=
  { rings := .ofFn fun _ => Ring.reset }

/-- A channel after power-on, whose pin stands at `level` (R95). -/
def Channel.reset (level : Bool) : Channel :=
  { raw := level, filtered := level, edge := .none, code := 0, qualifying := none }

/-- The STOP pin after power-on, standing at `level` (R54, R59). -/
def StopPin.reset (level : Bool) : StopPin :=
  { raw := level, filtered := level, qualifying := none }

/-- The input unit at power-on. DESIGN CHOICE (log 7): every pin stands low. -/
def InputUnit.reset : InputUnit :=
  { channels := .ofFn fun _ => Channel.reset false, stop := StopPin.reset false }

/-- An interval timer after power-on and after restart (R114). -/
def IntervalTimer.reset : IntervalTimer :=
  { mode := .off, phase := .stopped, period := 0, remaining := 0, trigger := none }

/-- The timer unit at power-on (R109, R114). -/
def TimerUnit.reset : TimerUnit :=
  { timeBase := 0, timers := .ofFn fun _ => IntervalTimer.reset, arriving := [] }

/-- The empty hold-cause set. -/
def HoldCauses.empty : HoldCauses :=
  { start := false, stop := false, silence := false, host := false }

/-- The output unit at power-on (R124). -/
def OutputUnit.reset : OutputUnit :=
  { livePattern := 0, safePattern := 0, mode := .safeHeld, causes := { HoldCauses.empty with start := true } }

/-- The empty notes set. -/
def Notes.empty : Notes :=
  { parity := false, framing := false, breakLine := false, gap := false, length := false, crc := false, overrun := false,
    resumed := false }

/-- The link unit at power-on (R138, R144, R146, R148). DESIGN CHOICE (log 8): the rate before the first reset release. -/
def LinkUnit.reset : LinkUnit :=
  { rate := 0, line := .waitingHigh, frame := .hunting, buffer := [], gap := 0, intake := none, notes := Notes.empty,
    noticeSlot := none, sending := none }

/-- The command unit at power-on (R151). -/
def CommandUnit.reset : CommandUnit :=
  { replyQueue := [], replyLog := [], window := false, lastReset := .power, startNotice := none }

/-- The machine at power-on, RESETn still low: every field at its power-on value (R163). -/
def State.reset : State :=
  { held := true, input := .reset, timer := .reset, event := .reset, capture := .reset, delivery := .reset,
    protection := .reset, output := .reset, link := .reset, command := .reset, choices := 0, pending := [] }

end Sys2Proof.Machine
end

