-- ==== Sys2Proof/Machine/Flags.lean ====
section
/-! DEFINITION. The sets and flags of the part: the notes set, the hold-cause set, the STOP active condition, and how a set of
flags stands in one byte (R146, R123, R56, R169). -/

namespace Sys2Proof.Machine

/-- The number whose bit n is the n-th flag of the list (bit 0 is the least significant). -/
def flagsValue : List Bool → Nat
  | [] => 0
  | b :: rest => (if b then 1 else 0) + 2 * flagsValue rest

/-- The set with a note added; a note already in it leaves the set as it is (R146). -/
def Notes.add (notes : Notes) : Note → Notes
  | .parity => { notes with parity := true }
  | .framing => { notes with framing := true }
  | .breakLine => { notes with breakLine := true }
  | .gap => { notes with gap := true }
  | .length => { notes with length := true }
  | .crc => { notes with crc := true }
  | .overrun => { notes with overrun := true }
  | .resumed => { notes with resumed := true }

/-- Whether a note is in the set. -/
def Notes.has (notes : Notes) : Note → Bool
  | .parity => notes.parity
  | .framing => notes.framing
  | .breakLine => notes.breakLine
  | .gap => notes.gap
  | .length => notes.length
  | .crc => notes.crc
  | .overrun => notes.overrun
  | .resumed => notes.resumed

/-- The notes set as a byte: bit 0 PARITY, 1 FRAMING, 2 BREAK, 3 GAP, 4 LENGTH, 5 CRC, 6 OVERRUN, 7 RESUMED (R169). -/
def Notes.code (notes : Notes) : Byte :=
  .ofNat 8 (flagsValue [notes.parity, notes.framing, notes.breakLine, notes.gap, notes.length, notes.crc, notes.overrun,
    notes.resumed])

/-- The set with a hold cause added; a cause already in it leaves the set as it is (R125). -/
def HoldCauses.add (causes : HoldCauses) : HoldCause → HoldCauses
  | .start => { causes with start := true }
  | .stop => { causes with stop := true }
  | .silence => { causes with silence := true }
  | .host => { causes with host := true }

/-- Whether a hold cause is in the set. -/
def HoldCauses.has (causes : HoldCauses) : HoldCause → Bool
  | .start => causes.start
  | .stop => causes.stop
  | .silence => causes.silence
  | .host => causes.host

/-- The hold-cause set as a byte: bit 0 START, 1 STOP, 2 SILENCE, 3 HOST, bits 7 to 4 zero (R169). -/
def HoldCauses.code (causes : HoldCauses) : Byte :=
  .ofNat 8 (flagsValue [causes.start, causes.stop, causes.silence, causes.host])

/-- What an evaluation of the STOP active condition finds: STOP is enabled and its filtered level is the active level (R56). -/
def State.stopCondition (s : State) : Bool :=
  s.protection.stopEnable && (s.input.stop.filtered == s.protection.stopActiveLevel)

/-- What the pins OUT0 to OUT7 show: the live pattern in LIVE, the safe pattern in SAFE_HELD (R123). -/
def State.outputLines (s : State) : Byte :=
  match s.output.mode with
  | .live => s.output.livePattern
  | .safeHeld => s.output.safePattern

/-- The filtered levels of the 32 channels as one value: bit n is channel n, 1 is high (R169). -/
def InputUnit.filteredLevels (u : InputUnit) : BitVec 32 :=
  .ofNat 32 (flagsValue (u.channels.toList.map Channel.filtered))

/-- The raw levels of the 32 channels as one value: bit n is channel n, 1 is high (R169). -/
def InputUnit.rawLevels (u : InputUnit) : BitVec 32 :=
  .ofNat 32 (flagsValue (u.channels.toList.map Channel.raw))

end Sys2Proof.Machine
end

