-- ==== Sys2Proof/Machine/Operands.lean ====
section
/-! DEFINITION. The fields of messages: how values are coded (R169), the byte order, the payload layouts of what the part sends
(R171, R172), frames with their CRC (R136, R137), characters on the line (R133), and the units of time (file 00, 4.3). -/

namespace Sys2Proof.Machine

/-! ### Byte order: the most significant byte first (R169) -/

/-- A count, number or setting as one byte. -/
def byteOf (n : Nat) : Byte := .ofNat 8 n

/-- A 16-bit value as two bytes, high byte first. -/
def bytes16 (w : BitVec 16) : List Byte :=
  [w.extractLsb' 8 8, w.extractLsb' 0 8]

/-- A 32-bit value as four bytes, high byte first. -/
def bytes32 (w : BitVec 32) : List Byte :=
  [w.extractLsb' 24 8, w.extractLsb' 16 8, w.extractLsb' 8 8, w.extractLsb' 0 8]

/-- The number in two bytes, high byte first. -/
def number16 (high low : Byte) : Nat := high.toNat * 256 + low.toNat

/-- The 32-bit value in four bytes, high byte first. -/
def word32 (b3 b2 b1 b0 : Byte) : BitVec 32 := b3 ++ b2 ++ b1 ++ b0

/-! ### Codes of field values (R169) -/

def boolCode (b : Bool) : Byte := if b then 1 else 0

def Mask.code : Mask → Byte
  | .masked => 0
  | .unmasked => 1

def Mode.code : Mode → Byte
  | .report => 0
  | .capture => 1

/-- U is coded 4, in frames from the part alone. -/
def Level.code : Level → Byte
  | .level0 => 0
  | .level1 => 1
  | .level2 => 2
  | .level3 => 3
  | .urgent => 4

def Cause.code : Cause → Byte
  | .occurrence => 0
  | .budgetEnd => 1
  | .ringFull => 2

/-- The service phase of a source: none, OFFERED or TAKEN. -/
def phaseCode : Option ServicePhase → Byte
  | none => 0
  | some .offered => 1
  | some .taken => 2

def Gate.code : Gate → Byte
  | .closed => 0
  | .opened => 1

def DeliveryState.code : DeliveryState → Byte
  | .delivering => 0
  | .suspended => 1

def EdgeSelect.code : EdgeSelect → Byte
  | .none => 0
  | .rise => 1
  | .fall => 2
  | .both => 3

def TimerMode.code : TimerMode → Byte
  | .off => 0
  | .once => 1
  | .repeating => 2
  | .onTrigger => 3

def TimerPhase.code : TimerPhase → Byte
  | .stopped => 0
  | .running => 1
  | .waiting => 2

/-- A trigger channel: its number, or FFh for none. -/
def triggerCode : Option (Fin 32) → Byte
  | none => 0xFF
  | some channel => byteOf channel.val

def OutputState.code : OutputState → Byte
  | .live => 0
  | .safeHeld => 1

def ResetCause.code : ResetCause → Byte
  | .power => 1
  | .restart => 2

/-- The kind bits of a capture record (R172). -/
def EventKind.code : EventKind → Nat
  | .rise => 0
  | .fall => 1
  | .expiry => 2

/-! ### Values of codes: `none` is out of range (R156, R169) -/

def Mask.ofCode? (b : Byte) : Option Mask :=
  match b.toNat with
  | 0 => some .masked
  | 1 => some .unmasked
  | _ => none

def Mode.ofCode? (b : Byte) : Option Mode :=
  match b.toNat with
  | 0 => some .report
  | 1 => some .capture
  | _ => none

/-- The level of a maskable source: 0 to 3. -/
def Level.ofCode? (b : Byte) : Option Level :=
  match b.toNat with
  | 0 => some .level0
  | 1 => some .level1
  | 2 => some .level2
  | 3 => some .level3
  | _ => none

def Gate.ofCode? (b : Byte) : Option Gate :=
  match b.toNat with
  | 0 => some .closed
  | 1 => some .opened
  | _ => none

/-- On/off items, and levels (low, high). -/
def boolOfCode? (b : Byte) : Option Bool :=
  match b.toNat with
  | 0 => some false
  | 1 => some true
  | _ => none

def EdgeSelect.ofCode? (b : Byte) : Option EdgeSelect :=
  match b.toNat with
  | 0 => some .none
  | 1 => some .rise
  | 2 => some .fall
  | 3 => some .both
  | _ => none

def TimerMode.ofCode? (b : Byte) : Option TimerMode :=
  match b.toNat with
  | 0 => some .off
  | 1 => some .once
  | 2 => some .repeating
  | 3 => some .onTrigger
  | _ => none

/-- A number below `n`. -/
def number? (n : Nat) (k : Nat) : Option (Fin n) :=
  if h : k < n then some ⟨k, h⟩ else none

/-- A trigger channel: a channel's number, or FFh, the code for none. -/
def triggerOfCode? (b : Byte) : Option (Option (Fin 32)) :=
  if b = 0xFF then some none else (number? 32 b.toNat).map some

/-- A number between two bounds, both included. -/
def bounded? (low high : Nat) (b : Byte) : Option Nat :=
  if low ≤ b.toNat ∧ b.toNat ≤ high then some b.toNat else none

/-! ### Refusal codes (R153) -/

def badKindCode : Byte := 0x01
def badLengthCode : Byte := 0x02
def guardCode : Byte := 0x03
def badFieldCode : Byte := 0x04
def modeConflictCode : Byte := 0x05
def offerOpenCode : Byte := 0x06
def notInnermostCode : Byte := 0x07
def notInServiceCode : Byte := 0x08
def staleCode : Byte := 0x09
def outputsHeldCode : Byte := 0x0A

/-! ### Time (file 00, 4.3; R55, R98, R133) -/

/-- The filter time of a filter code, in microseconds; code 0 has none (R55, R98). -/
def filterTime (code : Fin 8) : Nat :=
  match code.val with
  | 0 => 0
  | 1 => 20
  | 2 => 50
  | 3 => 100
  | 4 => 200
  | 5 => 500
  | 6 => 1000
  | _ => 2000

/-- A timer's period in microseconds (R113). -/
def IntervalTimer.periodTime (t : IntervalTimer) : Nat := t.period * 100

/-- A take timeout in microseconds: units of 4 ms (R37, R50). -/
def takeTime (timeout : Nat) : Nat := timeout * 4000

/-- A silence timeout in microseconds: units of 10 ms (R61). -/
def silenceTime (timeout : Nat) : Nat := timeout * 10000

/-- Line units in one microsecond. A line unit is 1/288 of a microsecond: the largest unit in which one microsecond and the bit
times of the four rates of R133 (38 400, 115 200, 230 400, 460 800 bit/s) are all whole (log 10). -/
def unitsPerMicrosecond : Nat := 288

/-- One bit time at the line rate in force, in line units (R133). -/
def bitUnits (rate : BitVec 2) : Nat :=
  match rate.toNat with
  | 0 => 7500
  | 1 => 2500
  | 2 => 1250
  | _ => 625

/-- One character time: 11 bit times (R133). -/
def characterUnits (rate : BitVec 2) : Nat := 11 * bitUnits rate

/-- The remaining time of a timer in units of 100 microseconds, rounded up; a RUNNING timer reports at least 1 (R122). -/
def IntervalTimer.remainingUnits (t : IntervalTimer) : Nat :=
  match t.phase with
  | .running => max 1 ((t.remaining + 99) / 100)
  | .stopped | .waiting => 0

/-! ### Payload layouts (R171, R172) -/

/-- A source's settings: mask, level, mode, ring, budget (R171, SET SOURCE and GET SOURCE). -/
def SourceRecord.settingsBytes (r : SourceRecord) : List Byte :=
  [r.mask.code, r.level.code, r.mode.code, byteOf r.ring.val, byteOf r.budget]

/-- The account part of GET SOURCE's data: cause and first time while pending, last time when there is one (R171). -/
def accountTail : Option Account → List Byte
  | none => []
  | some a => a.cause.code :: bytes32 a.first ++ (match a.last with | none => [] | some t => bytes32 t)

/-- The repeat count of a source: 0 while it is not pending (R6). -/
def SourceRecord.repeatCount (r : SourceRecord) : Nat :=
  match r.account with
  | none => 0
  | some a => a.count

/-- Whether a source is pending (R2). -/
def SourceRecord.isPending (r : SourceRecord) : Bool := r.account.isSome

/-- A stack entry in READ STACK's data (R171). -/
def Entry.bytes (e : Entry) : List Byte :=
  [byteOf e.source.val, e.level.code, phaseCode (some e.phase), e.notice, e.savedGate.code, byteOf e.attempts]

/-- A timer in SET TIMER's and GET TIMER's data (R171). -/
def timerBytes (number : Fin 4) (t : IntervalTimer) : List Byte :=
  [byteOf number.val, t.mode.code, t.phase.code] ++ bytes16 (.ofNat 16 t.period) ++ bytes16 (.ofNat 16 t.remainingUnits)
    ++ [triggerCode t.trigger]

/-- The form-and-kind byte of a capture record: bit 7 for a snapshot, bits 1 and 0 the kind (R172). -/
def CaptureRecord.formByte (r : CaptureRecord) : Byte :=
  byteOf ((if r.snapshot.isSome then 128 else 0) + r.kind.code)

/-- A capture record: 8 bytes, or 12 with a snapshot (R172). -/
def CaptureRecord.bytes (r : CaptureRecord) : List Byte :=
  bytes16 r.sequence ++ [r.formByte, byteOf r.source.val] ++ bytes32 r.time
    ++ (match r.snapshot with | none => [] | some levels => bytes32 levels)

/-- The payload of a REPLY or REFUSED frame with its notes set (R171). -/
def Answer.payload (notes : Notes) : Answer → List Byte
  | .reply kind data => kind :: notes.code :: data
  | .refused kind code detail => [kind, code, detail, notes.code]

/-- The payload of an EVENT notice (R172). -/
def EventNotice.payload (e : EventNotice) : List Byte :=
  [e.notice, byteOf e.attempt, byteOf e.source.val, e.level.code, e.account.cause.code, byteOf e.account.count]
    ++ bytes32 e.account.first ++ (match e.account.last with | none => [] | some t => bytes32 t) ++ [byteOf e.depth]

/-- The payload of a START notice (R172). -/
def StartNotice.payload (n : StartNotice) : List Byte :=
  [n.cause.code, byteOf Config.revision, n.outputState.code, n.causes.code, boolCode n.stopActive]

/-! ### Frames (R136, R137, R150) -/

/-- One bit shifted through the CRC register, polynomial x^16 + x^12 + x^5 + 1 (R137). -/
def crcBit (c : BitVec 16) : BitVec 16 :=
  if c.msb then (c <<< 1) ^^^ 0x1021#16 else c <<< 1

/-- One byte entered, most significant bit first (R137). -/
def crcByte (c : BitVec 16) (b : Byte) : BitVec 16 :=
  crcBit (crcBit (crcBit (crcBit (crcBit (crcBit (crcBit (crcBit (c ^^^ (b ++ 0#8)))))))))

/-- The CRC of a run of bytes: initial value FFFFh, not inverted at the end (R137). -/
def crcOf (bytes : List Byte) : BitVec 16 := bytes.foldl crcByte 0xFFFF#16

/-- The characters of a frame: lead byte, length, kind, sequence, payload, CRC high byte first (R136). -/
def frameBytes (kind sequence : Byte) (payload : List Byte) : List Byte :=
  let body := byteOf payload.length :: kind :: sequence :: payload
  0xA6 :: body ++ bytes16 (crcOf body)

/-- The kind byte of a frame the part sends (R172). -/
def OutFrame.kind : OutFrame → Byte
  | .answer ⟨_, .reply _ _, _⟩ => 0x80
  | .answer ⟨_, .refused _ _ _, _⟩ => 0x81
  | .event _ => 0x82
  | .start _ => 0x83

/-- The sequence field of a frame the part sends (R150). -/
def OutFrame.sequence : OutFrame → Byte
  | .answer f => f.sequence
  | .event e => e.notice
  | .start _ => 0

/-- The payload of a frame the part sends. -/
def OutFrame.payload : OutFrame → List Byte
  | .answer f => f.answer.payload f.notes
  | .event e => e.payload
  | .start n => n.payload

/-- The characters of a frame the part sends (R136). -/
def OutFrame.bytes (f : OutFrame) : List Byte := frameBytes f.kind f.sequence f.payload

/-- The time a frame takes on TXD, in line units: L + 6 characters with no idle time between them (R136, R148). -/
def OutFrame.duration (rate : BitVec 2) (f : OutFrame) : Nat := (f.payload.length + 6) * characterUnits rate

/-! ### Characters (R133) -/

/-- The parity of the ones among the data bits. -/
def oddOnes (b : Byte) : Bool :=
  b.getLsbD 0 ^^ b.getLsbD 1 ^^ b.getLsbD 2 ^^ b.getLsbD 3 ^^ b.getLsbD 4 ^^ b.getLsbD 5 ^^ b.getLsbD 6 ^^ b.getLsbD 7

/-- The 11 bits of a character: start bit low, data least significant bit first, even parity, stop bit high (R133). -/
def characterBits (b : Byte) : List Bool :=
  [false, b.getLsbD 0, b.getLsbD 1, b.getLsbD 2, b.getLsbD 3, b.getLsbD 4, b.getLsbD 5, b.getLsbD 6, b.getLsbD 7, oddOnes b,
    true]

/-- Pin TXD: high while the transmitter is free, else the bit of the frame being sent (R133, R148). -/
def State.txd (s : State) : Bool :=
  match s.link.sending with
  | none => true
  | some x => (x.frame.bytes.flatMap characterBits).getD (x.elapsed / bitUnits s.link.rate) true

end Sys2Proof.Machine
end

