-- ==== Sys2Proof/Machine/Ops.lean ====
section
/-! DEFINITION. The operations the commands share: latching and claims at the source table, hold claims and the STOP condition,
accepted input changes, offers and withdrawal, the valid-frame signal and frame discards, and how the command unit takes a
request and answers it. -/

namespace Sys2Proof.Machine

/-! ### The source table (chapter 1) -/

def State.source (s : State) (n : Fin 42) : SourceRecord := s.event.sources.get n

def State.setSource (s : State) (n : Fin 42) (r : SourceRecord) : State :=
  { s with event := { s.event with sources := s.event.sources.set n r } }

/-- Sources 40 and 41 are the urgent sources (R1). -/
def isUrgent (n : Fin 42) : Bool := decide (40 ≤ n.val)

/-- Source 40. -/
def stopSource : Fin 42 := 40

/-- Source 41. -/
def silenceSource : Fin 42 := 41

/-- The source of an occurrence (file 00, 4.5; R4). -/
def Occurrence.source : Occurrence → Fin 42
  | .edge channel _ _ _ => ⟨channel.val, by omega⟩
  | .expiry timer _ => ⟨32 + timer.val, by omega⟩
  | .crossing ring _ => ⟨36 + ring.val, by omega⟩
  | .stop => stopSource
  | .silence => silenceSource

/-- The timestamp of an occurrence: carried from its origin, or, for STOP and SILENCE, the time base on receipt (R4). -/
def Occurrence.timeAt (now : Time) : Occurrence → Time
  | .edge _ _ time _ => time
  | .expiry _ time => time
  | .crossing _ time => time
  | .stop | .silence => now

/-- An occurrence that has just arisen sets out for the event unit (R4). -/
def State.raise (o : Occurrence) (s : State) : State :=
  { s with event := { s.event with arriving := s.event.arriving ++ [{ occurrence := o, age := 0 }] } }

/-- The account after one more occurrence latches, stamped `time` (R6). -/
def latchAccount (time : Time) : Option Account → Account
  | none => { count := 1, cause := .occurrence, first := time, last := none }
  | some a => { a with count := min 255 (a.count + 1), last := some time }

/-- A record after an occurrence latches in it (R6). -/
def SourceRecord.latch (r : SourceRecord) (time : Time) : SourceRecord :=
  { r with account := some (latchAccount time r.account) }

/-- A record after an escalation: REPORT, budget 0, the occurrence latched, the cause set (R9). -/
def SourceRecord.escalate (r : SourceRecord) (time : Time) (cause : Cause) : SourceRecord :=
  { r with mode := .report, budget := 0, account := some { latchAccount time r.account with cause := cause } }

/-- The account an offer returns, merged with the one its source has gathered since (R40). -/
def mergeAccount (e : Account) : Option Account → Account
  | none => e
  | some s =>
    { count := min 255 (e.count + s.count)
      cause := if e.cause = .occurrence then s.cause else e.cause
      first := e.first
      last := some (s.last.getD s.first) }

/-! ### Capture claims (chapter 4) -/

/-- What a capture claim carries (R8). -/
structure Claim where
  kind : EventKind
  time : Time
  /-- The filtered levels, for sources 0 to 31. -/
  levels : Option (BitVec 32)
  deriving DecidableEq, Repr

/-- The claim an occurrence makes when its source captures; sources 36 to 41 make none (R5, R8). -/
def Occurrence.claim? : Occurrence → Option Claim
  | .edge _ rising time levels => some { kind := if rising then .rise else .fall, time := time, levels := some levels }
  | .expiry _ time => some { kind := .expiry, time := time, levels := none }
  | .crossing _ _ | .stop | .silence => none

def State.ring (s : State) (r : Fin 4) : Ring := s.capture.rings.get r

def State.setRingTo (s : State) (r : Fin 4) (ring : Ring) : State :=
  { s with capture := { s.capture with rings := s.capture.rings.set r ring } }

/-- The record a claim of source `n` makes: with a snapshot when the option is on, the levels carried or else those that stand
at the append (R75, R76). -/
def Ring.recordFor (ring : Ring) (n : Fin 42) (c : Claim) (filteredNow : BitVec 32) : CaptureRecord :=
  { sequence := ring.counter, source := n, kind := c.kind, time := c.time
    snapshot := if ring.snapshot then some (c.levels.getD filteredNow) else none }

/-- A ring after an append: the record at the newest end, the counter one on (R72, R79). -/
def Ring.append (ring : Ring) (record : CaptureRecord) : Ring :=
  { ring with records := ring.records ++ [record], counter := ring.counter + 1 }

/-- Whether an append to the ring is a watermark crossing (R83). -/
def Ring.crossesAt (ring : Ring) : Bool :=
  decide (ring.watermark ≠ 0) && decide (ring.records.length + 1 = ring.watermark)

/-- A record after an append for it: one unit of budget spent; at 0 the escalation BUDGET_END, else APPENDED (R79, R8, R9). -/
def SourceRecord.spend (r : SourceRecord) (time : Time) : SourceRecord :=
  if r.budget - 1 = 0 then r.escalate time .budgetEnd else { r with budget := r.budget - 1 }

/-- A capture claim of source `n`, answered RING_FULL, BUDGET_END or APPENDED (R78 to R83). -/
def State.captureClaim (s : State) (n : Fin 42) (c : Claim) : State :=
  let record := s.source n
  let ring := s.ring record.ring
  if Config.ringCapacity ≤ ring.records.length then
    s.setSource n (record.escalate c.time .ringFull)
  else
    let appended := (s.setRingTo record.ring (ring.append (ring.recordFor n c s.input.filteredLevels))).setSource n
      (record.spend c.time)
    if ring.crossesAt then appended.raise (.crossing record.ring s.timer.timeBase) else appended

/-- An occurrence reaches the event unit: the mask and mode of its source decide whether it is a claim or latches (R5, R11). -/
def State.arrive (s : State) (o : Occurrence) : State :=
  let record := s.source o.source
  match o.claim? with
  | some c =>
    if record.mask = .unmasked ∧ record.mode = .capture then s.captureClaim o.source c
    else s.setSource o.source (record.latch (o.timeAt s.timer.timeBase))
  | none => s.setSource o.source (record.latch (o.timeAt s.timer.timeBase))

/-! ### Outputs and protection (chapters 3 and 7) -/

/-- A hold claim: its cause is added and the outputs are SAFE_HELD, in one step (R125). -/
def State.holdClaim (s : State) (cause : HoldCause) : State :=
  { s with output := { s.output with causes := s.output.causes.add cause, mode := .safeHeld } }

/-- The protection unit evaluates the STOP active condition; a turn from not active to active is a STOP occurrence, which makes
the hold claim and sends the urgent occurrence (R56, R57, R58). -/
def State.evaluateStop (s : State) : State :=
  let active := s.stopCondition
  let evaluated := { s with protection := { s.protection with stopActive := active } }
  if active && !s.protection.stopActive then (evaluated.holdClaim .stop).raise .stop else evaluated

/-- The silence timer as a start leaves it: the full timeout, or STOPPED with a timeout of 0 (R61, R68, R69). -/
def silenceTimerFor (timeout : Nat) : Option Nat :=
  if timeout = 0 then none else some (silenceTime timeout)

/-! ### Input channels (chapter 5) -/

def State.channel (s : State) (n : Fin 32) : Channel := s.input.channels.get n

def State.setChannel (s : State) (n : Fin 32) (c : Channel) : State :=
  { s with input := { s.input with channels := s.input.channels.set n c } }

/-- Whether an accepted change to high (rising) or to low matches an edge select (R100). -/
def EdgeSelect.matchesEdge (e : EdgeSelect) (rising : Bool) : Bool :=
  match e with
  | .none => false
  | .rise => rising
  | .fall => !rising
  | .both => true

/-- A channel whose filtered level takes the raw level (R97, R98). -/
def Channel.accepted (c : Channel) : Channel :=
  { c with filtered := c.raw, qualifying := none }

/-- The report of an accepted change of channel `n`, already made: an occurrence and a trigger when it matches the edge select,
else nothing. The levels carried are those that stand now (R100, R101, R102). -/
def State.report (s : State) (n : Fin 32) : State :=
  let c := s.channel n
  if c.edge.matchesEdge c.filtered then
    let sent := s.raise (.edge n c.filtered s.timer.timeBase s.input.filteredLevels)
    { sent with timer := { sent.timer with arriving := sent.timer.arriving ++ [{ channel := n, age := 0 }] } }
  else s

/-- An accepted change of channel `n` (R97, R99, R100). -/
def State.acceptChange (s : State) (n : Fin 32) : State :=
  (s.setChannel n (s.channel n).accepted).report n

/-! ### Delivery (chapter 2) -/

/-- How urgent a level is: the smaller the more urgent (R14; file 00, 4.4). -/
def Level.rank : Level → Nat
  | .urgent => 0
  | .level0 => 1
  | .level1 => 2
  | .level2 => 3
  | .level3 => 4

/-- `a` is more urgent than `b`. -/
def Level.moreUrgent (a b : Level) : Bool := decide (a.rank < b.rank)

/-- The entry of a source, if it is in service (R25). -/
def DeliveryUnit.entryOf? (d : DeliveryUnit) (n : Fin 42) : Option Entry :=
  d.stack.find? fun e => e.source = n

/-- Whether a source is in service (R25). -/
def DeliveryUnit.inService (d : DeliveryUnit) (n : Fin 42) : Bool :=
  d.stack.any fun e => e.source = n

/-- The OFFERED entry, if there is one (R27). -/
def DeliveryUnit.offered? (d : DeliveryUnit) : Option Entry :=
  d.stack.find? fun e => e.phase = .offered

/-- The maskable entries, innermost first. -/
def DeliveryUnit.maskableEntries (d : DeliveryUnit) : List Entry :=
  d.stack.filter fun e => !isUrgent e.source

/-- The offer slot is free (R27). -/
def State.slotFree (s : State) : Bool :=
  decide (s.delivery.mode = .delivering) && s.delivery.offered?.isNone && !s.command.window

/-- The level test, with level-3 re-entry (R29, R30). -/
def DeliveryUnit.levelTest (d : DeliveryUnit) (level : Level) : Bool :=
  match d.maskableEntries with
  | [] => true
  | e :: _ => level.moreUrgent e.level || (d.reentry && decide (level = .level3) && decide (e.level = .level3))

/-- Whether a source is a candidate for an offer (R28 for 40 and 41, R29 for the maskable sources). -/
def State.isCandidate (s : State) (n : Fin 42) : Bool :=
  let record := s.source n
  if n = stopSource then record.isPending && !s.delivery.inService n
  else if n = silenceSource then
    record.isPending && !s.delivery.inService stopSource && !s.delivery.inService silenceSource
  else
    record.isPending && decide (record.mask = .unmasked) && !s.delivery.inService n
      && decide (s.delivery.gate = .opened) && !(s.delivery.stack.any fun e => isUrgent e.source)
      && decide (s.delivery.maskableEntries.length < Config.maskableStackLimit) && s.delivery.levelTest record.level

/-- The source numbers in the order in which candidates of one level are taken: the lowest first (R31). -/
def sourceNumbers : List (Fin 42) := List.finRange 42

/-- The levels, most urgent first. -/
def levelsByUrgency : List Level := [.urgent, .level0, .level1, .level2, .level3]

/-- The source the delivery unit chooses: STOP, else SILENCE, else the maskable candidate whose level is most urgent and, among
those, whose number is lowest (R27, R31). -/
def State.chosen? (s : State) : Option (Fin 42) :=
  if s.isCandidate stopSource then some stopSource
  else if s.isCandidate silenceSource then some silenceSource
  else levelsByUrgency.findSome? fun level =>
    sourceNumbers.find? fun n => !isUrgent n && s.isCandidate n && decide ((s.source n).level = level)

/-- The first number after `c`, counting upwards modulo 256, that is not in `held` (R34). -/
def nextFree (held : List Byte) (c : Byte) : Nat → Byte
  | 0 => c + 1
  | k + 1 => if (c + 1) ∈ held then nextFree held (c + 1) k else c + 1

/-- The notice counter after an offer that was given `c`, with the notice numbers the stack then holds (R34). -/
def nextNotice (held : List Byte) (c : Byte) : Byte := nextFree held c 255

/-- The EVENT notice of an entry on a stack of `depth` entries (R35). -/
def Entry.event (e : Entry) (depth : Nat) : EventNotice :=
  { notice := e.notice, attempt := e.attempts, source := e.source, level := e.level, account := e.account, depth := depth }

/-- An offer of source `n` with account `a`, in one step (R33, R16). -/
def State.offer (s : State) (n : Fin 42) (a : Account) : State :=
  let record := s.source n
  let d := s.delivery
  let entry : Entry :=
    { source := n, level := record.level, phase := .offered, notice := d.noticeCounter, savedGate := d.gate, attempts := 1,
      account := a }
  let stack := entry :: d.stack
  let emptied := s.setSource n { record with account := none }
  { emptied with
    delivery := { d with stack := stack, gate := .closed, noticeCounter := nextNotice (stack.map Entry.notice) d.noticeCounter }
    link := { s.link with noticeSlot := some (entry.event stack.length) } }

/-- An EVENT notice that waits unstarted for the entry with this notice number is cancelled (R36). -/
def LinkUnit.cancelNotice (l : LinkUnit) (notice : Byte) : LinkUnit :=
  match l.noticeSlot with
  | some e => if e.notice = notice then { l with noticeSlot := none } else l
  | none => l

/-! ### The link (chapter 8) -/

/-- The valid-frame signal to the protection unit and the delivery unit (R143, R61, R42). -/
def State.validSignal (s : State) : State :=
  let watched :=
    if s.protection.silenceTimeout = 0 then s
    else { s with protection := { s.protection with silenceTimer := silenceTimerFor s.protection.silenceTimeout } }
  match s.delivery.mode with
  | .delivering => watched
  | .suspended =>
    { watched with
      delivery := { s.delivery with mode := .delivering }
      link := { s.link with notes := s.link.notes.add .resumed } }

/-- Some frame for the answer with this sequence number waits unstarted in the reply queue (R160). -/
def CommandUnit.isWaiting (c : CommandUnit) (sequence : Byte) : Bool :=
  c.replyQueue.any fun f => f.sequence = sequence

/-- The logged answer with this sequence number (R159, R160). -/
def CommandUnit.logged? (c : CommandUnit) (sequence : Byte) : Option LogEntry :=
  c.replyLog.find? fun e => e.sequence = sequence

/-- The disposal of a valid frame: discarded in the restart window, placed in the empty intake slot, or lost with OVERRUN
(R144). A duplicate whose logged answer waits unstarted is taken and discarded as soon as it is in the slot (R152, R160). -/
def State.dispose (s : State) (r : Request) : State :=
  if s.command.window then s
  else
    match s.link.intake with
    | some _ => { s with link := { s.link with notes := s.link.notes.add .overrun } }
    | none =>
      if (s.command.logged? r.sequence).isSome && s.command.isWaiting r.sequence then s
      else { s with link := { s.link with intake := some r } }

/-- The frame being assembled is discarded: the buffer is emptied, the notes are added, the receiver hunts (R142). -/
def LinkUnit.discardFrame (l : LinkUnit) (conditions : List Note) : LinkUnit :=
  { l with frame := .hunting, buffer := [], notes := conditions.foldl Notes.add l.notes }

/-! ### The command unit (chapter 9) -/

/-- A frame is placed at the newest end of the reply queue; it takes the notes set, which is emptied (R147, R152). -/
def State.queueAnswer (s : State) (sequence : Byte) (a : Answer) : State :=
  { s with
    link := { s.link with notes := Notes.empty }
    command := { s.command with
      replyQueue := s.command.replyQueue ++ [{ sequence := sequence, answer := a, notes := s.link.notes }] } }

/-- The reply log after an answer joins it: the last four are kept (R159). -/
def joinLog (log : List LogEntry) (e : LogEntry) : List LogEntry :=
  log.drop (log.length + 1 - Config.replyCapacity) ++ [e]

/-- The answer to a new request is queued and logged (R152, R159). -/
def State.answerNew (s : State) (sequence : Byte) (a : Answer) : State :=
  let queued := s.queueAnswer sequence a
  { queued with command := { queued.command with
      replyLog := joinLog queued.command.replyLog { sequence := sequence, answer := a } } }

/-- The command unit takes the request from the intake slot, which is then empty (R152). -/
def State.emptyIntake (s : State) : State :=
  { s with link := { s.link with intake := none } }

/-- The request the command unit can take now: none while RESETn is low or the restart window is open (R151, R152). -/
def State.standing? (s : State) : Option Request :=
  if s.held || s.command.window then none else s.link.intake

/-- The NEW request the command unit can take now: its sequence number is not in the log, and the reply queue has a free place
(R152, R160). -/
def State.newRequest? (s : State) : Option Request :=
  match s.standing? with
  | some r =>
    if (s.command.logged? r.sequence).isNone && decide (s.command.replyQueue.length < Config.replyCapacity) then some r
    else none
  | none => none

/-- How a request passes its checks: executed, with the state it leaves and the data of its REPLY, or refused, with the refusal
code and the detail byte (R153). -/
inductive Verdict where
  | executed (s : State) (data : List Byte)
  | refused (code detail : Byte)

/-- The step in which the command unit takes a request of one kind: it empties the slot, checks and executes the request, and
queues and logs the answer. A refused request changes nothing else (R152, R153). While no new request of the kind stands in the
slot, or the queue is full, this is no step of the part (log 3). -/
def serve (kind : Byte) (body : Request → State → Verdict) (s : State) : Host.Outcome State Fault Refusal :=
  match s.newRequest? with
  | some r =>
    if r.kind = kind then
      match body r s.emptyIntake with
      | .executed t data => .next (t.answerNew r.sequence (.reply r.kind data))
      | .refused code detail => .next (s.emptyIntake.answerNew r.sequence (.refused r.kind code detail))
    else .next s
  | none => .next s

/-- The length check (R153, R154): the detail is the payload length received. -/
def badLength (r : Request) : Verdict := .refused badLengthCode (byteOf r.payload.length)

/-- A field check (R153, R156): a value outside the field's codes refuses with BAD_FIELD, the detail its offset. -/
def field {α : Type} (offset : Nat) (value? : Option α) (k : α → Verdict) : Verdict :=
  match value? with
  | some v => k v
  | none => .refused badFieldCode (byteOf offset)

/-- The guard check (R155): the guard byte equals 255 minus the sequence number, or GUARD with the byte received. -/
def guarded (r : Request) (guard : Byte) (k : Verdict) : Verdict :=
  if guard = 255 - r.sequence then k else .refused guardCode guard

end Sys2Proof.Machine
end

