-- ==== Sys2Proof/Machine/Capture.lean ====
section
/-! DEFINITION. The requests on the capture rings (4.7): SET RING, DRAIN RING, DISCARD RING. -/

namespace Sys2Proof.Machine

/-- The checks and execution of SET RING (R88, R89). -/
def setRingBody (r : Request) (s : State) : Verdict :=
  match r.payload with
  | [ringByte, snapshotByte, watermarkByte] =>
    field 0 (number? 4 ringByte.toNat) fun n =>
    field 1 (boolOfCode? snapshotByte) fun snapshot =>
    field 2 (bounded? 0 64 watermarkByte) fun watermark =>
    let ring := { s.ring n with snapshot := snapshot, watermark := watermark }
    .executed (s.setRingTo n ring)
      ([ringByte, boolCode snapshot, byteOf watermark, byteOf ring.records.length] ++ bytes16 ring.counter)
  | _ => badLength r

/-- SET RING (kind 11h). -/
def execSetRing (s : State) : Host.Outcome State Fault Refusal := serve 0x11 setRingBody s

/-- The checks and execution of DRAIN RING (R90, R91): the oldest records leave the ring and are returned, oldest first. -/
def drainRingBody (r : Request) (s : State) : Verdict :=
  match r.payload with
  | [ringByte, maximumByte] =>
    field 0 (number? 4 ringByte.toNat) fun n =>
    field 1 (bounded? 1 6 maximumByte) fun maximum =>
    let ring := s.ring n
    let returned := ring.records.take maximum
    let kept := ring.records.drop maximum
    .executed (s.setRingTo n { ring with records := kept })
      ([ringByte, byteOf returned.length, byteOf kept.length] ++ returned.flatMap CaptureRecord.bytes)
  | _ => badLength r

/-- DRAIN RING (kind 12h). -/
def execDrainRing (s : State) : Host.Outcome State Fault Refusal := serve 0x12 drainRingBody s

/-- The checks and execution of DISCARD RING (R93). -/
def discardRingBody (r : Request) (s : State) : Verdict :=
  match r.payload with
  | [ringByte] =>
    field 0 (number? 4 ringByte.toNat) fun n =>
    let ring := s.ring n
    .executed (s.setRingTo n { ring with records := [] })
      ([ringByte, byteOf ring.records.length] ++ bytes16 ring.counter)
  | _ => badLength r

/-- DISCARD RING (kind 13h). -/
def execDiscardRing (s : State) : Host.Outcome State Fault Refusal := serve 0x13 discardRingBody s

end Sys2Proof.Machine
end

