-- ==== Sys2Proof/Machine/Command.lean ====
section
/-! DEFINITION. The command unit's own steps (chapter 9): duplicates, requests of no known kind, PING and RESTART. -/

namespace Sys2Proof.Machine

/-- The step in which the command unit takes a duplicate, if it can: discarded while a frame for its logged answer waits unstarted,
whether or not the queue is full; else replayed into a free place, with no execution and no log entry (R152, R160). -/
def State.replayed? (s : State) : Option State :=
  match s.standing? with
  | some r =>
    match s.command.logged? r.sequence with
    | some e =>
      if s.command.isWaiting r.sequence then some s.emptyIntake
      else if s.command.replyQueue.length < Config.replyCapacity then
        some (s.emptyIntake.queueAnswer r.sequence e.answer)
      else none
    | none => none
  | none => none

/-- REPLAY (R160). -/
def execReplay (s : State) : Host.Outcome State Fault Refusal :=
  match s.replayed? with
  | some t => .next t
  | none => .next s

/-- The host-to-part kind codes: 01h to 1Ah (8.7, R154). -/
def isRequestKind (kind : Byte) : Bool := decide (0x01 ≤ kind.toNat) && decide (kind.toNat ≤ 0x1A)

/-- BAD_KIND (R154): the refusal is made before the payload is looked at. -/
def execBadKind (s : State) : Host.Outcome State Fault Refusal :=
  match s.newRequest? with
  | some r =>
    if isRequestKind r.kind then .next s
    else .next (s.emptyIntake.answerNew r.sequence (.refused r.kind badKindCode 0))
  | none => .next s

/-- The number of pending sources that are either maskable and UNMASKED or urgent (R162). -/
def State.pendingCount (s : State) : Nat :=
  (sourceNumbers.filter fun n => (s.source n).isPending && (isUrgent n || decide ((s.source n).mask = .unmasked))).length

/-- The checks and execution of PING (R162): it changes nothing. -/
def pingBody (r : Request) (s : State) : Verdict :=
  match r.payload with
  | [] =>
    .executed s [byteOf Config.revision, s.command.lastReset.code, s.delivery.mode.code, s.delivery.gate.code,
      byteOf s.delivery.stack.length, boolCode s.delivery.offered?.isSome, byteOf s.pendingCount, s.output.mode.code,
      s.output.causes.code]
  | _ => badLength r

/-- PING (kind 01h). -/
def execPing (s : State) : Host.Outcome State Fault Refusal := serve 0x01 pingBody s

/-- The checks and execution of RESTART (R165): its REPLY carries no data, and the restart window opens. -/
def restartBody (r : Request) (s : State) : Verdict :=
  match r.payload with
  | [guard] => guarded r guard <| .executed { s with command := { s.command with window := true } } []
  | _ => badLength r

/-- RESTART (kind 1Ah). -/
def execRestart (s : State) : Host.Outcome State Fault Refusal := serve 0x1A restartBody s

end Sys2Proof.Machine
end

