-- ==== Sys2Proof/Machine/Delivery.lean ====
section
/-! DEFINITION. Delivery (chapter 2): offers, the take timer with its resends and withdrawals, TAKE, DONE, GATE, SET DELIVERY and
READ STACK. -/

namespace Sys2Proof.Machine

/-- The source the delivery unit offers now and its account: the slot is free and a candidate exists (R27). -/
def State.nextOffer? (s : State) : Option (Fin 42 × Account) :=
  if !s.held && s.slotFree then
    match s.chosen? with
    | some n => (s.source n).account.map fun a => (n, a)
    | none => none
  else none

/-- MAKE_OFFER (R27, R31, R33). -/
def execMakeOffer (s : State) : Host.Outcome State Fault Refusal :=
  match s.nextOffer? with
  | some (n, a) => .next (s.offer n a)
  | none => .next s

/-- The OFFERED entry's take timer has run out, the restart window closed (R37, R43): the entry and those below it. -/
def State.takeExpiry? (s : State) : Option (Entry × List Entry) :=
  if !s.held && !s.command.window && decide (s.delivery.takeTimer = some 0) then
    match s.delivery.stack with
    | e :: rest => if e.phase = .offered then some (e, rest) else none
    | [] => none
  else none

/-- The offer is resent: one more attempt, and its EVENT notice in the notice slot (R38). -/
def State.resend (s : State) (e : Entry) (rest : List Entry) : State :=
  let again := { e with attempts := e.attempts + 1 }
  let stack := again :: rest
  { s with
    delivery := { s.delivery with stack := stack, takeTimer := none }
    link := { s.link with noticeSlot := some (again.event stack.length) } }

/-- The offer is withdrawn: the entry is removed, the gate restored, the account returned and merged, and delivery SUSPENDED
(R39, R40). -/
def State.withdraw (s : State) (e : Entry) (rest : List Entry) : State :=
  let record := s.source e.source
  let returned := s.setSource e.source { record with account := some (mergeAccount e.account record.account) }
  { returned with
    delivery := { s.delivery with stack := rest, gate := e.savedGate, takeTimer := none, mode := .suspended } }

/-- TAKE_TIMER_EXPIRY (R37, R38, R39). -/
def execTakeTimerExpiry (s : State) : Host.Outcome State Fault Refusal :=
  match s.takeExpiry? with
  | some (e, rest) =>
    if e.attempts < s.delivery.retryLimit + 1 then .next (s.resend e rest) else .next (s.withdraw e rest)
  | none => .next s

/-- The codes of the TAKE result (R169). -/
def takeFirstCode : Byte := 1
def takeAgainCode : Byte := 2

/-- The data of TAKE's REPLY (R171). -/
def takeData (notice result : Byte) (source : Fin 42) (depth : Nat) : List Byte :=
  [notice, result, byteOf source.val, byteOf depth]

/-- The innermost entry becomes TAKEN: the take timer stops, and a notice of it that waits unstarted is cancelled (R44, R36). -/
def State.takeInnermost (s : State) (e : Entry) (rest : List Entry) : State :=
  { s with
    delivery := { s.delivery with stack := { e with phase := .taken } :: rest, takeTimer := none }
    link := s.link.cancelNotice e.notice }

/-- TAKE of an entry that is not the innermost OFFERED one: AGAIN when a TAKEN entry holds the number, else STALE (R44). -/
def takeAgain (notice : Byte) (s : State) : Verdict :=
  match s.delivery.stack.find? fun e => e.notice = notice ∧ e.phase = .taken with
  | some e => .executed s (takeData notice takeAgainCode e.source s.delivery.stack.length)
  | none => .refused staleCode notice

/-- The checks and execution of TAKE (R44). -/
def takeBody (r : Request) (s : State) : Verdict :=
  match r.payload with
  | [notice] =>
    match s.delivery.stack with
    | e :: rest =>
      if e.phase = .offered ∧ e.notice = notice then
        .executed (s.takeInnermost e rest) (takeData notice takeFirstCode e.source (rest.length + 1))
      else takeAgain notice s
    | [] => takeAgain notice s
  | _ => badLength r

/-- TAKE (kind 09h). -/
def execTake (s : State) : Host.Outcome State Fault Refusal := serve 0x09 takeBody s

/-- The innermost entry is removed and the gate restored; an OFFERED one is taken first, so its take timer stops and its waiting
notice is cancelled (R46, R47). -/
def State.doneInnermost (s : State) (e : Entry) (rest : List Entry) : State :=
  match e.phase with
  | .taken => { s with delivery := { s.delivery with stack := rest, gate := e.savedGate } }
  | .offered =>
    { s with
      delivery := { s.delivery with stack := rest, gate := e.savedGate, takeTimer := none }
      link := s.link.cancelNotice e.notice }

/-- The checks and execution of DONE (R46, R47, R48). -/
def doneBody (r : Request) (s : State) : Verdict :=
  match r.payload with
  | [sourceByte] =>
    field 0 (number? 42 sourceByte.toNat) fun n =>
    match s.delivery.stack with
    | e :: rest =>
      if e.source = n then
        .executed (s.doneInnermost e rest) [sourceByte, e.savedGate.code, byteOf rest.length]
      else if s.delivery.inService n then .refused notInnermostCode sourceByte
      else .refused notInServiceCode sourceByte
    | [] => .refused notInServiceCode sourceByte
  | _ => badLength r

/-- DONE (kind 0Ah). -/
def execDone (s : State) : Host.Outcome State Fault Refusal := serve 0x0A doneBody s

/-- The checks and execution of GATE (R49). -/
def gateBody (r : Request) (s : State) : Verdict :=
  match r.payload with
  | [gateByte] =>
    field 0 (Gate.ofCode? gateByte) fun gate =>
    match s.delivery.offered? with
    | some e => .refused offerOpenCode (byteOf e.source.val)
    | none =>
      .executed { s with delivery := { s.delivery with gate := gate } } [gate.code, byteOf s.delivery.stack.length]
  | _ => badLength r

/-- GATE (kind 08h). -/
def execGate (s : State) : Host.Outcome State Fault Refusal := serve 0x08 gateBody s

/-- The checks and execution of SET DELIVERY (R50): a running take timer keeps the duration it started with. -/
def setDeliveryBody (r : Request) (s : State) : Verdict :=
  match r.payload with
  | [timeoutByte, retryByte, reentryByte] =>
    field 0 (bounded? 1 255 timeoutByte) fun timeout =>
    field 1 (bounded? 0 7 retryByte) fun retry =>
    field 2 (boolOfCode? reentryByte) fun reentry =>
    .executed
      { s with delivery := { s.delivery with takeTimeout := timeout, retryLimit := retry, reentry := reentry } }
      [byteOf timeout, byteOf retry, boolCode reentry]
  | _ => badLength r

/-- SET DELIVERY (kind 06h). -/
def execSetDelivery (s : State) : Host.Outcome State Fault Refusal := serve 0x06 setDeliveryBody s

/-- The checks and execution of READ STACK (R51): it changes nothing. The entries stand outermost first. -/
def readStackBody (r : Request) (s : State) : Verdict :=
  match r.payload with
  | [] =>
    let d := s.delivery
    .executed s ([d.gate.code, d.mode.code, byteOf d.takeTimeout, byteOf d.retryLimit, boolCode d.reentry, d.noticeCounter,
      byteOf d.stack.length] ++ d.stack.reverse.flatMap Entry.bytes)
  | _ => badLength r

/-- READ STACK (kind 07h). -/
def execReadStack (s : State) : Host.Outcome State Fault Refusal := serve 0x07 readStackBody s

end Sys2Proof.Machine
end

