-- ==== Sys2Proof/Machine/Inputs.lean ====
section
/-! DEFINITION. The input channels (chapter 5): pin changes, the end of a qualification, SET INPUT and READ INPUTS. -/

namespace Sys2Proof.Machine

/-- A channel whose qualification has lasted the whole filter time (R97). -/
def Channel.isDue (c : Channel) : Bool :=
  match c.qualifying with
  | some elapsed => decide (c.raw ≠ c.filtered) && decide (filterTime c.code ≤ elapsed)
  | none => false

/-- INPUT_PIN_CHANGE (R97, R98): the raw level follows the pin. A return to the filtered level cancels a qualification; a difference
is accepted at once under code 0, and under codes 1 to 7 starts a qualification if none is in progress. While RESETn is low nothing
is qualified (log 17). DESIGN CHOICE (log 25): a return at the very moment the filter time ends cancels when it is taken before the end
of the qualification. -/
def execInputPinChange (channel : Nat) (level : Bool) (s : State) : Host.Outcome State Fault Refusal :=
  match number? 32 channel with
  | none => .next s
  | some n =>
    let c := s.channel n
    if c.raw = level then .next s
    else if s.held then .next (s.setChannel n { c with raw := level, filtered := level })
    else if level = c.filtered then .next (s.setChannel n { c with raw := level, qualifying := none })
    else if c.code = 0 then .next ((s.setChannel n { c with raw := level }).acceptChange n)
    else .next (s.setChannel n { c with raw := level, qualifying := some (c.qualifying.getD 0) })

/-- QUALIFICATION_END (R97): the filter time has run out, and the filtered level takes the raw level as an accepted change. -/
def execQualificationEnd (channel : Nat) (s : State) : Host.Outcome State Fault Refusal :=
  match number? 32 channel with
  | none => .next s
  | some n => if !s.held && (s.channel n).isDue then .next (s.acceptChange n) else .next s

/-- A qualification in progress whose filter code changes to 0 is accepted in the step of the request (R98). -/
def Channel.acceptsUnder (c : Channel) (code : Fin 8) : Bool :=
  c.qualifying.isSome && decide (c.raw ≠ c.filtered) && decide (code ≠ c.code) && decide (code = 0)

/-- A channel under a new edge select and filter code: a change of code restarts a qualification in progress, or, to code 0,
accepts it (R98, R104, R106). -/
def Channel.configure (c : Channel) (edge : EdgeSelect) (code : Fin 8) : Channel :=
  let written := { c with edge := edge, code := code }
  if c.qualifying.isSome ∧ code ≠ c.code then
    if code = 0 then written.accepted else { written with qualifying := some 0 }
  else written

/-- The distinct numbers below `n` that a list of bytes names, in rising order. -/
def listedNumbers (n : Nat) (list : List Byte) : List (Fin n) :=
  (List.finRange n).filter fun i => list.any fun b => b.toNat = i.val

/-- SET INPUT's writing of every listed channel in one step; then the acceptances of the step are reported, each with the levels
that include them all (R106). -/
def State.configureChannels (s : State) (edge : EdgeSelect) (code : Fin 8) (listed : List (Fin 32)) : State :=
  let channels : Table 32 Channel :=
    .ofFn fun n => if n ∈ listed then (s.channel n).configure edge code else s.channel n
  (listed.filter fun n => (s.channel n).acceptsUnder code).foldl State.report
    { s with input := { s.input with channels := channels } }

/-- The checks and execution of SET INPUT (R105, R106). -/
def setInputBody (r : Request) (s : State) : Verdict :=
  match r.payload with
  | edgeByte :: codeByte :: list =>
    if list = [] ∨ 32 < list.length then badLength r
    else
      field 0 (EdgeSelect.ofCode? edgeByte) fun edge =>
      field 1 (number? 8 codeByte.toNat) fun code =>
      match list.find? fun b => 31 < b.toNat with
      | some b => .refused badFieldCode b
      | none =>
        let listed := listedNumbers 32 list
        .executed (s.configureChannels edge code listed) [edge.code, byteOf code.val, byteOf listed.length]
  | _ => badLength r

/-- SET INPUT (kind 0Bh). -/
def execSetInput (s : State) : Host.Outcome State Fault Refusal := serve 0x0B setInputBody s

/-- The checks and execution of READ INPUTS (R108): it changes nothing. -/
def readInputsBody (r : Request) (s : State) : Verdict :=
  match r.payload with
  | [] =>
    .executed s (bytes32 s.input.rawLevels ++ bytes32 s.input.filteredLevels
      ++ [boolCode s.input.stop.raw, boolCode s.input.stop.filtered, boolCode s.protection.stopActive])
  | _ => badLength r

/-- READ INPUTS (kind 0Ch). -/
def execReadInputs (s : State) : Host.Outcome State Fault Refusal := serve 0x0C readInputsBody s

end Sys2Proof.Machine
end

