-- ==== Sys2Proof/Machine/Outputs.lean ====
section
/-! DEFINITION. The requests on the output lines (7.4): SET OUTPUTS, HOLD OUTPUTS, RELEASE OUTPUTS, SET SAFE. -/

namespace Sys2Proof.Machine

/-- The checks and execution of SET OUTPUTS (R126): the selected lines change, while the outputs are LIVE. -/
def setOutputsBody (r : Request) (s : State) : Verdict :=
  match r.payload with
  | [mask, values] =>
    match s.output.mode with
    | .safeHeld => .refused outputsHeldCode s.output.causes.code
    | .live =>
      let pattern := (s.output.livePattern &&& ~~~mask) ||| (values &&& mask)
      .executed { s with output := { s.output with livePattern := pattern } } [pattern, OutputState.live.code]
  | _ => badLength r

/-- SET OUTPUTS (kind 14h). -/
def execSetOutputs (s : State) : Host.Outcome State Fault Refusal := serve 0x14 setOutputsBody s

/-- The checks and execution of HOLD OUTPUTS (R128): a hold claim with cause HOST. -/
def holdOutputsBody (r : Request) (s : State) : Verdict :=
  match r.payload with
  | [] =>
    let t := s.holdClaim .host
    .executed t [t.output.mode.code, t.output.causes.code]
  | _ => badLength r

/-- HOLD OUTPUTS (kind 15h). -/
def execHoldOutputs (s : State) : Host.Outcome State Fault Refusal := serve 0x15 holdOutputsBody s

/-- The checks and execution of RELEASE OUTPUTS (R129): refused with detail 40 while STOP is active; else the causes are emptied, the
live pattern is loaded and the outputs are LIVE. -/
def releaseOutputsBody (r : Request) (s : State) : Verdict :=
  match r.payload with
  | [guard, pattern] =>
    guarded r guard <|
    if s.protection.stopActive then .refused outputsHeldCode 40
    else
      .executed
        { s with output := { s.output with causes := HoldCauses.empty, livePattern := pattern, mode := .live } }
        [OutputState.live.code, HoldCauses.empty.code, pattern]
  | _ => badLength r

/-- RELEASE OUTPUTS (kind 16h). -/
def execReleaseOutputs (s : State) : Host.Outcome State Fault Refusal := serve 0x16 releaseOutputsBody s

/-- The checks and execution of SET SAFE (R131). -/
def setSafeBody (r : Request) (s : State) : Verdict :=
  match r.payload with
  | [guard, pattern] =>
    guarded r guard <|
    .executed { s with output := { s.output with safePattern := pattern } } [pattern, s.output.mode.code]
  | _ => badLength r

/-- SET SAFE (kind 17h). -/
def execSetSafe (s : State) : Host.Outcome State Fault Refusal := serve 0x17 setSafeBody s

end Sys2Proof.Machine
end

