-- ==== Sys2Proof/Machine/Protection.lean ====
section
/-! DEFINITION. Urgent sources and protective action (chapter 3): the STOP pin, the silence timer, SET STOP and SET SILENCE. -/

namespace Sys2Proof.Machine

/-- The STOP pin's qualification has lasted the whole STOP filter time (R54). -/
def State.stopDue (s : State) : Bool :=
  match s.input.stop.qualifying with
  | some elapsed =>
    decide (s.input.stop.raw ≠ s.input.stop.filtered) && decide (filterTime s.protection.stopCode ≤ elapsed)
  | none => false

/-- The state with another STOP pin. -/
def State.setStopPin (s : State) (p : StopPin) : State := { s with input := { s.input with stop := p } }

/-- The STOP pin's filtered level takes the raw level (R54). -/
def StopPin.accepted (p : StopPin) : StopPin := { p with filtered := p.raw, qualifying := none }

/-- An accepted STOP change, and the evaluation it calls for (R54, R56). -/
def State.acceptStop (s : State) : State := (s.setStopPin s.input.stop.accepted).evaluateStop

/-- STOP_PIN_CHANGE (R54): as a channel's pin, with the STOP filter code. DESIGN CHOICE (log 25): a return at the very moment the STOP
filter time ends cancels when it is taken before the end of the qualification. -/
def execStopPinChange (level : Bool) (s : State) : Host.Outcome State Fault Refusal :=
  let p := s.input.stop
  if p.raw = level then .next s
  else if s.held then .next (s.setStopPin { p with raw := level, filtered := level })
  else if level = p.filtered then .next (s.setStopPin { p with raw := level, qualifying := none })
  else if s.protection.stopCode = 0 then .next (s.setStopPin { p with raw := level }).acceptStop
  else .next (s.setStopPin { p with raw := level, qualifying := some (p.qualifying.getD 0) })

/-- STOP_QUALIFICATION_END (R54, R56): the filtered STOP level changes and the STOP active condition is evaluated. -/
def execStopQualificationEnd (s : State) : Host.Outcome State Fault Refusal :=
  if !s.held && s.stopDue then .next s.acceptStop else .next s

/-- SILENCE_EXPIRY (R62): the hold claim with cause SILENCE, the occurrence of source 41, and the timer STOPPED. -/
def execSilenceExpiry (s : State) : Host.Outcome State Fault Refusal :=
  if !s.held && decide (s.protection.silenceTimer = some 0) then
    .next (({ s with protection := { s.protection with silenceTimer := none } }.holdClaim .silence).raise .silence)
  else .next s

/-- The STOP pin under a new filter code: a change of code restarts a qualification in progress, or, to code 0, accepts the
difference in the same step (R55). -/
def StopPin.recode (p : StopPin) (old new : Fin 8) : StopPin :=
  if p.qualifying.isSome ∧ new ≠ old then
    if new = 0 then p.accepted else { p with qualifying := some 0 }
  else p

/-- The checks and execution of SET STOP (R66): the three settings are written, the qualification is treated by R55 and the
condition is evaluated, in one step. -/
def setStopBody (r : Request) (s : State) : Verdict :=
  match r.payload with
  | [guard, enableByte, levelByte, codeByte] =>
    guarded r guard <|
    field 1 (boolOfCode? enableByte) fun enable =>
    field 2 (boolOfCode? levelByte) fun level =>
    field 3 (number? 8 codeByte.toNat) fun code =>
    let recoded := s.setStopPin (s.input.stop.recode s.protection.stopCode code)
    let written :=
      { recoded with
        protection := { s.protection with stopEnable := enable, stopActiveLevel := level, stopCode := code } }
    let t := written.evaluateStop
    .executed t [boolCode enable, boolCode level, byteOf code.val, boolCode t.input.stop.filtered,
      boolCode t.protection.stopActive]
  | _ => badLength r

/-- SET STOP (kind 18h). -/
def execSetStop (s : State) : Host.Outcome State Fault Refusal := serve 0x18 setStopBody s

/-- The checks and execution of SET SILENCE (R68). -/
def setSilenceBody (r : Request) (s : State) : Verdict :=
  match r.payload with
  | [guard, timeout] =>
    guarded r guard <|
    .executed
      { s with
        protection := { s.protection with
          silenceTimeout := timeout.toNat, silenceTimer := silenceTimerFor timeout.toNat } }
      [timeout]
  | _ => badLength r

/-- SET SILENCE (kind 19h). -/
def execSetSilence (s : State) : Host.Outcome State Fault Refusal := serve 0x19 setSilenceBody s

end Sys2Proof.Machine
end

