-- ==== Sys2Proof/Machine/Receiver.lean ====
section
/-! DEFINITION. The receiver (8.1, 8.3): start bits, characters, breaks, and the gap limit. -/

namespace Sys2Proof.Machine

/-- START_BIT (R134, R141): the idle receiver starts a character, which ends the gap interval and starts the break limit. -/
def execStartBit (s : State) : Host.Outcome State Fault Refusal :=
  if s.held then .next s
  else
    match s.link.line with
    | .idle => .next { s with link := { s.link with line := .inCharacter 0, gap := 0 } }
    | .waitingHigh | .inCharacter _ => .next s

/-- The conditions a character carries: PARITY when its ones are not even with the parity bit, FRAMING when its stop bit was low
(R134, R135). -/
def characterConditions (data : Byte) (parity stop : Bool) : List Note :=
  (if parity = oddOnes data then [] else [.parity]) ++ (if stop then [] else [.framing])

/-- A frame whose every character has been received: its request, and whether its CRC matches (R136, R137, R140). -/
def completeFrame? (buffer : List Byte) : Option (Request × Bool) :=
  match buffer with
  | _ :: length :: kind :: sequence :: rest =>
    if rest.length = length.toNat + 2 then
      let payload := rest.take length.toNat
      some ({ kind := kind, sequence := sequence, payload := payload },
        decide (rest.drop length.toNat = bytes16 (crcOf (length :: kind :: sequence :: payload))))
    else none
  | _ => none

/-- A character joins the frame being assembled: LENGTH for a length byte above 80; when the frame is complete, valid or CRC (R140,
R142, R143, R144). -/
def State.assemble (s : State) (data : Byte) : State :=
  let buffer := s.link.buffer ++ [data]
  if buffer.length = 2 ∧ Config.maxPayload < data.toNat then { s with link := s.link.discardFrame [.length] }
  else
    match completeFrame? buffer with
    | none => { s with link := { s.link with buffer := buffer } }
    | some (_, false) => { s with link := s.link.discardFrame [.crc] }
    | some (r, true) => ({ s with link := { s.link with frame := .hunting, buffer := [] } }.validSignal).dispose r

/-- A character reaches the frame level: while HUNTING a clean A6h begins a frame and all else is ignored; while ASSEMBLING a
condition discards the frame (R139, R140, R142). -/
def State.frameCharacter (s : State) (data : Byte) (conditions : List Note) : State :=
  match s.link.frame with
  | .hunting =>
    if conditions = [] ∧ data = 0xA6 then { s with link := { s.link with frame := .assembling, buffer := [data] } } else s
  | .assembling =>
    if conditions = [] then s.assemble data else { s with link := s.link.discardFrame conditions }

/-- CHARACTER_RECEIVED (R134, R135): the character begun by a start bit is received; the receiver is idle, and the gap is measured
from this receipt. -/
def execCharacterReceived (data : BitVec 8) (parity stop : Bool) (s : State) : Host.Outcome State Fault Refusal :=
  if s.held then .next s
  else
    match s.link.line with
    | .inCharacter _ =>
      .next
        ({ s with link := { s.link with line := .idle, gap := 0 } }.frameCharacter data
          (characterConditions data parity stop))
    | .waitingHigh | .idle => .next s

/-- Two character times have passed since the start bit of the character being received (R135). DESIGN CHOICE (log 26): that is a break
whatever its data and parity bits were, though R135 speaks of a line that was low throughout. -/
def LinkUnit.breakDue (l : LinkUnit) : Bool :=
  match l.line with
  | .inCharacter elapsed => decide (2 * characterUnits l.rate ≤ elapsed)
  | .waitingHigh | .idle => false

/-- BREAK_LIMIT (R135, R142, R139): the character is a break; a frame being assembled is discarded with BREAK. -/
def execBreakLimit (s : State) : Host.Outcome State Fault Refusal :=
  if !s.held && s.link.breakDue then
    match s.link.frame with
    | .assembling => .next { s with link := { s.link.discardFrame [.breakLine] with line := .waitingHigh } }
    | .hunting => .next { s with link := { s.link with line := .waitingHigh } }
  else .next s

/-- BREAK_END (R134, R135): RXD is high again, and the receiver takes the next start bit. -/
def execBreakEnd (s : State) : Host.Outcome State Fault Refusal :=
  if s.held then .next s
  else
    match s.link.line with
    | .waitingHigh => .next { s with link := { s.link with line := .idle } }
    | .idle | .inCharacter _ => .next s

/-- Twenty character times have passed since the last character of the frame being assembled, with no start bit (R141). -/
def LinkUnit.gapDue (l : LinkUnit) : Bool :=
  decide (l.frame = .assembling) && decide (l.line = .idle) && decide (20 * characterUnits l.rate ≤ l.gap)

/-- GAP_LIMIT (R141, R142): the frame is discarded with GAP. -/
def execGapLimit (s : State) : Host.Outcome State Fault Refusal :=
  if !s.held && s.link.gapDue then .next { s with link := s.link.discardFrame [.gap] } else .next s

end Sys2Proof.Machine
end

