-- ==== Sys2Proof/Machine/Reset.lean ====
section
/-! DEFINITION. The two resets: power-on with its release (9.5), and the restart that RESTART leads to (9.6). -/

namespace Sys2Proof.Machine

/-- The START notice is raised with its content fixed as the part stands now (R150, R164). -/
def State.raiseStart (s : State) (cause : ResetCause) : State :=
  { s with
    command := { s.command with
      startNotice := some
        { cause := cause, outputState := s.output.mode, causes := s.output.causes, stopActive := s.protection.stopActive } } }

/-- POWER_ON (R163): every unit takes its power-on values, RESETn low. The raw levels follow the pins (R94, R95); the filtered
levels show them until the release samples them (log 17). The queue and the count of free choices are the model's own. -/
def execPowerOn (s : State) : Host.Outcome State Fault Refusal :=
  .next
    { State.reset with
      input :=
        { channels := s.input.channels.map fun c => Channel.reset c.raw
          stop := StopPin.reset s.input.stop.raw }
      choices := s.choices
      pending := s.pending }

/-- The pins are sampled into the raw and filtered levels, with no qualification in progress and no occurrence (R95, R59). -/
def InputUnit.sample (u : InputUnit) (pins : BitVec 32) (stopPin : Bool) : InputUnit :=
  { channels := .ofFn fun n =>
      { u.channels.get n with raw := pins.getLsbD n.val, filtered := pins.getLsbD n.val, qualifying := none }
    stop := { raw := stopPin, filtered := stopPin, qualifying := none } }

/-- The STOP check at reset release: when STOP is active that is a STOP occurrence, whose claim and whose latching at source 40
fall in this step (R59, R57, log 6). -/
def State.stopCheck (s : State) : State :=
  let checked := { s with protection := { s.protection with stopActive := s.stopCondition } }
  if s.stopCondition then (checked.holdClaim .stop).arrive .stop else checked

/-- RESET_RELEASE (R163): the rate pins are read, the pins are sampled, the STOP check is made and the START notice is raised with
cause POWER. With RXD low the receiver waits for it to be high (R134). -/
def execResetRelease (rate : BitVec 2) (pins : BitVec 32) (stopPin rxd : Bool) (s : State) :
    Host.Outcome State Fault Refusal :=
  if s.held then
    let sampled :=
      { s with
        held := false
        input := s.input.sample pins stopPin
        link := { s.link with rate := rate, line := if rxd then .idle else .waitingHigh } }
    .next (sampled.stopCheck.raiseStart .power)
  else .next s

/-- The restart takes place, as one step (R167; R3, R52, R69, R74, R96, R114, R124, R147, R151). Occurrences and triggers on their
way are lost (R4). -/
def State.restartNow (s : State) : State :=
  let restarted : State :=
    { s with
      input := { s.input with channels := s.input.channels.map fun c => Channel.reset c.raw }
      timer := { TimerUnit.reset with timeBase := s.timer.timeBase }
      event := .reset
      capture := .reset
      delivery := .reset
      protection := { s.protection with silenceTimer := silenceTimerFor s.protection.silenceTimeout }
      link := { s.link with notes := Notes.empty, noticeSlot := none }
      command := { s.command with replyQueue := [], replyLog := [], window := false, lastReset := .restart } }
  restarted.raiseStart .restart

end Sys2Proof.Machine
end

