-- ==== Sys2Proof/Machine/Sources.lean ====
section
/-! DEFINITION. The source table (chapter 1): the arrival of an occurrence, SET SOURCE, GET SOURCE, MASK LIST, CLEAR SOURCE. -/

namespace Sys2Proof.Machine

/-- OCCURRENCE_ARRIVAL (R5): the oldest occurrence of the source that is on its way reaches the event unit. -/
def execOccurrenceArrival (source : Nat) (s : State) : Host.Outcome State Fault Refusal :=
  match number? 42 source with
  | none => .next s
  | some n =>
    if s.held then .next s
    else
      match s.event.arriving.find? fun x => x.occurrence.source = n with
      | none => .next s
      | some x =>
        .next
          ({ s with
              event := { s.event with
                arriving := s.event.arriving.eraseP fun x => x.occurrence.source = n } }.arrive x.occurrence)

/-- The checks and execution of SET SOURCE (R17, R18). -/
def setSourceBody (r : Request) (s : State) : Verdict :=
  match r.payload with
  | [sourceByte, maskByte, levelByte, modeByte, ringByte, budgetByte] =>
    field 0 (number? 42 sourceByte.toNat) fun n =>
    field 1 (Mask.ofCode? maskByte) fun mask =>
    field 2 (Level.ofCode? levelByte) fun level =>
    field 3 (Mode.ofCode? modeByte) fun mode =>
    field 4 (number? 4 ringByte.toNat) fun ring =>
    field 5 (if mode = .capture ∧ budgetByte = 0 then none else some budgetByte.toNat) fun budget =>
    if 40 ≤ n.val ∨ (36 ≤ n.val ∧ mode = .capture) then .refused modeConflictCode sourceByte
    else
      let record : SourceRecord :=
        { mask := mask, level := level, mode := mode, ring := ring, budget := if mode = .capture then budget else 0
          account := (s.source n).account }
      .executed (s.setSource n record) (sourceByte :: record.settingsBytes)
  | _ => badLength r

/-- SET SOURCE (kind 02h). -/
def execSetSource (s : State) : Host.Outcome State Fault Refusal := serve 0x02 setSourceBody s

/-- The checks and execution of GET SOURCE (R19): it changes nothing. -/
def getSourceBody (r : Request) (s : State) : Verdict :=
  match r.payload with
  | [sourceByte] =>
    field 0 (number? 42 sourceByte.toNat) fun n =>
    let record := s.source n
    .executed s (sourceByte :: record.settingsBytes
      ++ [boolCode record.isPending, byteOf record.repeatCount, phaseCode ((s.delivery.entryOf? n).map Entry.phase)]
      ++ accountTail record.account)
  | _ => badLength r

/-- GET SOURCE (kind 03h). -/
def execGetSource (s : State) : Host.Outcome State Fault Refusal := serve 0x03 getSourceBody s

/-- The mask of every listed source set in one step (R21). -/
def State.maskSources (s : State) (mask : Mask) (listed : List (Fin 42)) : State :=
  { s with
    event := { s.event with
      sources := .ofFn fun n => if n ∈ listed then { s.source n with mask := mask } else s.source n } }

/-- The checks and execution of MASK LIST (R20, R21). -/
def maskListBody (r : Request) (s : State) : Verdict :=
  match r.payload with
  | maskByte :: list =>
    if list = [] ∨ 40 < list.length then badLength r
    else
      field 0 (Mask.ofCode? maskByte) fun mask =>
      match list.find? fun b => 41 < b.toNat with
      | some b => .refused badFieldCode b
      | none =>
        match list.find? fun b => 40 ≤ b.toNat with
        | some b => .refused modeConflictCode b
        | none =>
          let listed := listedNumbers 42 list
          .executed (s.maskSources mask listed) [mask.code, byteOf listed.length]
  | _ => badLength r

/-- MASK LIST (kind 04h). -/
def execMaskList (s : State) : Host.Outcome State Fault Refusal := serve 0x04 maskListBody s

/-- The checks and execution of CLEAR SOURCE (R22). -/
def clearSourceBody (r : Request) (s : State) : Verdict :=
  match r.payload with
  | [sourceByte] =>
    field 0 (number? 42 sourceByte.toNat) fun n =>
    let record := s.source n
    .executed (s.setSource n { record with account := none }) [sourceByte, byteOf record.repeatCount]
  | _ => badLength r

/-- CLEAR SOURCE (kind 05h). -/
def execClearSource (s : State) : Host.Outcome State Fault Refusal := serve 0x05 clearSourceBody s

end Sys2Proof.Machine
end

