-- ==== Sys2Proof/Machine/Timers.lean ====
section
/-! DEFINITION. The time base and the interval timers (chapter 6): triggers, expiries, SET TIMER, GET TIMER, SET TIME, GET TIME. -/

namespace Sys2Proof.Machine

def State.intervalTimer (s : State) (n : Fin 4) : IntervalTimer := s.timer.timers.get n

def State.setIntervalTimer (s : State) (n : Fin 4) (t : IntervalTimer) : State :=
  { s with timer := { s.timer with timers := s.timer.timers.set n t } }

/-- A timer after a trigger of `channel` accepted `age` microseconds ago: an ON_TRIGGER timer on that channel runs the full period,
counted from the acceptance; any other timer is as it was (R102, R117). -/
def IntervalTimer.triggered (t : IntervalTimer) (channel : Fin 32) (age : Nat) : IntervalTimer :=
  if t.mode = .onTrigger ∧ t.trigger = some channel then
    { t with phase := .running, remaining := t.periodTime - age }
  else t

/-- TRIGGER_ARRIVAL (R117): the oldest trigger naming the channel acts on every timer in the one step. -/
def execTriggerArrival (channel : Nat) (s : State) : Host.Outcome State Fault Refusal :=
  match number? 32 channel with
  | none => .next s
  | some c =>
    if s.held then .next s
    else
      match s.timer.arriving.find? fun x => x.channel = c with
      | none => .next s
      | some x =>
        .next
          { s with
            timer := { s.timer with
              timers := s.timer.timers.map fun t => t.triggered c x.age
              arriving := s.timer.arriving.eraseP fun x => x.channel = c } }

/-- A RUNNING timer whose remaining time is 0 (R115). -/
def IntervalTimer.isDue (t : IntervalTimer) : Bool := decide (t.phase = .running) && decide (t.remaining = 0)

/-- A timer after its expiry, by its mode (R116). -/
def IntervalTimer.expired (t : IntervalTimer) : IntervalTimer :=
  match t.mode with
  | .off | .once => { t with mode := .off, phase := .stopped, remaining := 0 }
  | .repeating => { t with phase := .running, remaining := t.periodTime }
  | .onTrigger => { t with phase := .waiting, remaining := 0 }

/-- TIMER_EXPIRY (R115, R116): the EXPIRY occurrence of source 32 + n is sent, stamped with the time base, and the timer changes by
its mode. -/
def execTimerExpiry (timer : Nat) (s : State) : Host.Outcome State Fault Refusal :=
  match number? 4 timer with
  | none => .next s
  | some n =>
    let t := s.intervalTimer n
    if !s.held && t.isDue then .next ((s.setIntervalTimer n t.expired).raise (.expiry n s.timer.timeBase))
    else .next s

/-- A timer as SET TIMER leaves it, by the new mode (R120). -/
def IntervalTimer.configured (mode : TimerMode) (period : Nat) (trigger : Option (Fin 32)) : IntervalTimer :=
  match mode with
  | .off => { mode := .off, phase := .stopped, period := period, remaining := 0, trigger := none }
  | .once => { mode := .once, phase := .running, period := period, remaining := period * 100, trigger := none }
  | .repeating => { mode := .repeating, phase := .running, period := period, remaining := period * 100, trigger := none }
  | .onTrigger => { mode := .onTrigger, phase := .waiting, period := period, remaining := 0, trigger := trigger }

/-- The checks and execution of SET TIMER (R119, R120). -/
def setTimerBody (r : Request) (s : State) : Verdict :=
  match r.payload with
  | [timerByte, modeByte, periodHigh, periodLow, triggerByte] =>
    let periodValue := number16 periodHigh periodLow
    field 0 (number? 4 timerByte.toNat) fun n =>
    field 1 (TimerMode.ofCode? modeByte) fun mode =>
    field 2 (if periodValue = 0 ∧ mode ≠ .off then none else some periodValue) fun period =>
    field 4 (triggerOfCode? triggerByte) fun trigger =>
    field 4 (if trigger = none ∧ mode = .onTrigger then none else some trigger) fun trigger =>
    let t := IntervalTimer.configured mode period trigger
    .executed (s.setIntervalTimer n t) (timerBytes n t)
  | _ => badLength r

/-- SET TIMER (kind 0Dh). -/
def execSetTimer (s : State) : Host.Outcome State Fault Refusal := serve 0x0D setTimerBody s

/-- The checks and execution of GET TIMER (R122): it changes nothing. -/
def getTimerBody (r : Request) (s : State) : Verdict :=
  match r.payload with
  | [timerByte] => field 0 (number? 4 timerByte.toNat) fun n => .executed s (timerBytes n (s.intervalTimer n))
  | _ => badLength r

/-- GET TIMER (kind 0Eh). -/
def execGetTimer (s : State) : Host.Outcome State Fault Refusal := serve 0x0E getTimerBody s

/-- The checks and execution of SET TIME (R111): the REPLY carries the value before the load. -/
def setTimeBody (r : Request) (s : State) : Verdict :=
  match r.payload with
  | [b3, b2, b1, b0] =>
    .executed { s with timer := { s.timer with timeBase := word32 b3 b2 b1 b0 } } (bytes32 s.timer.timeBase)
  | _ => badLength r

/-- SET TIME (kind 0Fh). -/
def execSetTime (s : State) : Host.Outcome State Fault Refusal := serve 0x0F setTimeBody s

/-- The checks and execution of GET TIME (R112): it changes nothing. -/
def getTimeBody (r : Request) (s : State) : Verdict :=
  match r.payload with
  | [] => .executed s (bytes32 s.timer.timeBase)
  | _ => badLength r

/-- GET TIME (kind 10h). -/
def execGetTime (s : State) : Host.Outcome State Fault Refusal := serve 0x10 getTimeBody s

end Sys2Proof.Machine
end

