-- ==== Sys2Proof/Machine/Transmitter.lean ====
section
/-! DEFINITION. The transmitter and its arbiter (8.6). -/

namespace Sys2Proof.Machine

/-- The arbiter's choice when the transmitter is free: the START notice, the oldest answer, or the EVENT notice, with the state in
which the frame has left its place and is being sent (R148, R149). -/
def State.arbitrate? (s : State) : Option State :=
  if s.held then none
  else
    match s.link.sending with
    | some _ => none
    | none =>
      match s.command.startNotice with
      | some n =>
        some { s with
          command := { s.command with startNotice := none }
          link := { s.link with sending := some { frame := .start n, elapsed := 0 } } }
      | none =>
        match s.command.replyQueue with
        | f :: rest =>
          some { s with
            command := { s.command with replyQueue := rest }
            link := { s.link with sending := some { frame := .answer f, elapsed := 0 } } }
        | [] =>
          match s.link.noticeSlot with
          | some e =>
            some { s with
              link := { s.link with noticeSlot := none, sending := some { frame := .event e, elapsed := 0 } } }
          | none => none

/-- ARBITER_CHOICE (R149). -/
def execArbiterChoice (s : State) : Host.Outcome State Fault Refusal :=
  match s.arbitrate? with
  | some t => .next t
  | none => .next s

/-- The frame being sent has had its whole time on the line (R148). -/
def LinkUnit.frameDue (l : LinkUnit) : Bool :=
  match l.sending with
  | some x => decide (x.frame.duration l.rate ≤ x.elapsed)
  | none => false

/-- At the end of an EVENT notice the take timer starts, if the notice's entry is still OFFERED and the restart window is closed
(R37). While the OFFERED entry's own notice still waits in the slot, the notice that ended was an earlier entry's (R36, log 23). -/
def State.startTakeTimer (s : State) (e : EventNotice) : State :=
  match s.delivery.offered? with
  | some entry =>
    if entry.notice = e.notice ∧ s.command.window = false ∧ s.link.noticeSlot = none then
      { s with delivery := { s.delivery with takeTimer := some (takeTime s.delivery.takeTimeout) } }
    else s
  | none => s

/-- The kind code of RESTART (8.7). -/
def restartKind : Byte := 0x1A

/-- The unit that placed the frame acts on the report of its end: the take timer after an EVENT, the restart after the REPLY to
RESTART (R148, R37, R167). -/
def State.endReport (s : State) (f : OutFrame) : State :=
  match f with
  | .start _ => s
  | .event e => s.startTakeTimer e
  | .answer ⟨_, .reply kind _, _⟩ => if kind = restartKind then s.restartNow else s
  | .answer ⟨_, .refused _ _ _, _⟩ => s

/-- FRAME_END (R148). -/
def execFrameEnd (s : State) : Host.Outcome State Fault Refusal :=
  match s.link.sending with
  | some x =>
    if !s.held && s.link.frameDue then .next ({ s with link := { s.link with sending := none } }.endReport x.frame)
    else .next s
  | none => .next s

end Sys2Proof.Machine
end

