-- ==== Sys2Proof/Machine/Dispatch.lean ====
section
/-! DEFINITION. The meaning of every command: one arm per constructor, in the table's order. -/

namespace Sys2Proof.Machine

def exec (i : Instr) (s : State) : Host.Outcome State Fault Refusal :=
  match i with
  | .powerOn => Sys2Proof.Machine.execPowerOn s
  | .resetRelease rate pins stopPin rxd => Sys2Proof.Machine.execResetRelease rate pins stopPin rxd s
  | .inputPinChange channel level => Sys2Proof.Machine.execInputPinChange channel level s
  | .qualificationEnd channel => Sys2Proof.Machine.execQualificationEnd channel s
  | .stopPinChange level => Sys2Proof.Machine.execStopPinChange level s
  | .stopQualificationEnd => Sys2Proof.Machine.execStopQualificationEnd s
  | .occurrenceArrival source => Sys2Proof.Machine.execOccurrenceArrival source s
  | .triggerArrival channel => Sys2Proof.Machine.execTriggerArrival channel s
  | .timerExpiry timer => Sys2Proof.Machine.execTimerExpiry timer s
  | .silenceExpiry => Sys2Proof.Machine.execSilenceExpiry s
  | .makeOffer => Sys2Proof.Machine.execMakeOffer s
  | .takeTimerExpiry => Sys2Proof.Machine.execTakeTimerExpiry s
  | .characterReceived data parity stop => Sys2Proof.Machine.execCharacterReceived data parity stop s
  | .breakLimit => Sys2Proof.Machine.execBreakLimit s
  | .gapLimit => Sys2Proof.Machine.execGapLimit s
  | .replay => Sys2Proof.Machine.execReplay s
  | .badKind => Sys2Proof.Machine.execBadKind s
  | .arbiterChoice => Sys2Proof.Machine.execArbiterChoice s
  | .frameEnd => Sys2Proof.Machine.execFrameEnd s
  | .ping => Sys2Proof.Machine.execPing s
  | .setSource => Sys2Proof.Machine.execSetSource s
  | .getSource => Sys2Proof.Machine.execGetSource s
  | .maskList => Sys2Proof.Machine.execMaskList s
  | .clearSource => Sys2Proof.Machine.execClearSource s
  | .setDelivery => Sys2Proof.Machine.execSetDelivery s
  | .readStack => Sys2Proof.Machine.execReadStack s
  | .gate => Sys2Proof.Machine.execGate s
  | .take => Sys2Proof.Machine.execTake s
  | .done => Sys2Proof.Machine.execDone s
  | .setInput => Sys2Proof.Machine.execSetInput s
  | .readInputs => Sys2Proof.Machine.execReadInputs s
  | .setTimer => Sys2Proof.Machine.execSetTimer s
  | .getTimer => Sys2Proof.Machine.execGetTimer s
  | .setTime => Sys2Proof.Machine.execSetTime s
  | .getTime => Sys2Proof.Machine.execGetTime s
  | .setRing => Sys2Proof.Machine.execSetRing s
  | .drainRing => Sys2Proof.Machine.execDrainRing s
  | .discardRing => Sys2Proof.Machine.execDiscardRing s
  | .setOutputs => Sys2Proof.Machine.execSetOutputs s
  | .holdOutputs => Sys2Proof.Machine.execHoldOutputs s
  | .releaseOutputs => Sys2Proof.Machine.execReleaseOutputs s
  | .setSafe => Sys2Proof.Machine.execSetSafe s
  | .setStop => Sys2Proof.Machine.execSetStop s
  | .setSilence => Sys2Proof.Machine.execSetSilence s
  | .restart => Sys2Proof.Machine.execRestart s
  | .startBit => Sys2Proof.Machine.execStartBit s
  | .breakEnd => Sys2Proof.Machine.execBreakEnd s

end Sys2Proof.Machine
end

