-- ==== Sys2Proof/Machine/Idle.lean ====
section
/-! DEFINITION. What the block does by itself while no command waits (log 1): it takes one of the steps of its own that are
possible, or lets one microsecond pass. No time passes while a step is due (log 12). -/

namespace Sys2Proof.Machine

/-- The request row of a kind code, or BAD_KIND (8.7, R154). -/
def requestCommand (kind : Byte) : Instr :=
  match kind.toNat with
  | 0x01 => .ping
  | 0x02 => .setSource
  | 0x03 => .getSource
  | 0x04 => .maskList
  | 0x05 => .clearSource
  | 0x06 => .setDelivery
  | 0x07 => .readStack
  | 0x08 => .gate
  | 0x09 => .take
  | 0x0A => .done
  | 0x0B => .setInput
  | 0x0C => .readInputs
  | 0x0D => .setTimer
  | 0x0E => .getTimer
  | 0x0F => .setTime
  | 0x10 => .getTime
  | 0x11 => .setRing
  | 0x12 => .drainRing
  | 0x13 => .discardRing
  | 0x14 => .setOutputs
  | 0x15 => .holdOutputs
  | 0x16 => .releaseOutputs
  | 0x17 => .setSafe
  | 0x18 => .setStop
  | 0x19 => .setSilence
  | 0x1A => .restart
  | _ => .badKind

/-- The steps with which the command unit can take the request in the intake slot now (R152). -/
def State.commandSteps (s : State) : List Instr :=
  (if s.replayed?.isSome then [Instr.replay] else [])
    ++ (match s.newRequest? with | some r => [requestCommand r.kind] | none => [])

/-- The list with `i` in it when the condition holds, and empty otherwise. -/
def stepIf (condition : Bool) (i : Instr) : List Instr := if condition then [i] else []

/-- The arrivals of what has been on its way for at least (`due`) or less than a microsecond (R4). -/
def State.arrivals (s : State) (due : Bool) : List Instr :=
  ((s.event.arriving.filter fun x => decide (1 ≤ x.age) == due).map fun x => .occurrenceArrival x.occurrence.source.val)
    ++ ((s.timer.arriving.filter fun x => decide (1 ≤ x.age) == due).map fun x => .triggerArrival x.channel.val)

/-- The steps of the part that are due: they are taken before time passes (log 12). -/
def State.dueSteps (s : State) : List Instr :=
  if s.held then []
  else
    ((List.finRange 32).filter fun n => (s.channel n).isDue).map (fun n => Instr.qualificationEnd n.val)
      ++ stepIf s.stopDue .stopQualificationEnd
      ++ ((List.finRange 4).filter fun n => (s.intervalTimer n).isDue).map (fun n => Instr.timerExpiry n.val)
      ++ stepIf (s.protection.silenceTimer = some 0) .silenceExpiry
      ++ stepIf s.takeExpiry?.isSome .takeTimerExpiry
      ++ stepIf s.link.breakDue .breakLimit
      ++ stepIf s.link.gapDue .gapLimit
      ++ stepIf s.link.frameDue .frameEnd
      ++ stepIf s.nextOffer?.isSome .makeOffer
      ++ stepIf s.arbitrate?.isSome .arbiterChoice
      ++ s.commandSteps
      ++ s.arrivals true

/-- One microsecond later, for a channel or the STOP pin's qualification (R97). -/
def laterQualification : Option Nat → Option Nat := Option.map (· + 1)

/-- One microsecond later, for an interval timer (R115). -/
def IntervalTimer.later (t : IntervalTimer) : IntervalTimer :=
  match t.phase with
  | .running => { t with remaining := t.remaining - 1 }
  | .stopped | .waiting => t

/-- One microsecond later, for the receiver and the transmitter: the break limit, the gap interval, the frame being sent (R135, R141,
R148). -/
def LinkUnit.later (l : LinkUnit) : LinkUnit :=
  { l with
    line := match l.line with
      | .inCharacter elapsed => .inCharacter (elapsed + unitsPerMicrosecond)
      | .waitingHigh => .waitingHigh
      | .idle => .idle
    gap := if l.frame = .assembling ∧ l.line = .idle then l.gap + unitsPerMicrosecond else l.gap
    sending := l.sending.map fun x => { x with elapsed := x.elapsed + unitsPerMicrosecond } }

/-- One microsecond passes: the time base and every timer of the part count (R109, R115, R61, R37, R43, R97, R54, R4). While RESETn is
low nothing counts (R109, R163). -/
def State.tick (s : State) : State :=
  if s.held then s
  else
    { s with
      input :=
        { channels := s.input.channels.map fun c => { c with qualifying := laterQualification c.qualifying }
          stop := { s.input.stop with qualifying := laterQualification s.input.stop.qualifying } }
      timer :=
        { timeBase := s.timer.timeBase + 1
          timers := s.timer.timers.map IntervalTimer.later
          arriving := s.timer.arriving.map fun x => { x with age := x.age + 1 } }
      event := { s.event with arriving := s.event.arriving.map fun x => { x with age := x.age + 1 } }
      delivery := { s.delivery with
        takeTimer := if s.command.window then s.delivery.takeTimer else s.delivery.takeTimer.map (· - 1) }
      protection := { s.protection with silenceTimer := s.protection.silenceTimer.map (· - 1) }
      link := s.link.later }

/-- What the block does on an empty queue: the one step that is possible, or one of several by a free choice (log 2), a microsecond's
passing among them when no step is due. -/
def State.idle (s : State) : Host.Outcome State Fault Refusal :=
  let due := s.dueSteps
  let possible := due ++ (if s.held then [] else s.arrivals false)
  match possible, due with
  | [], _ => .next s.tick
  | [only], _ :: _ => exec only s
  | _, _ =>
    let ways := possible.length + (if due = [] then 1 else 0)
    let after := { s with choices := s.choices + 1 }
    match possible[Config.freeChoice s.choices % ways]? with
    | some i => exec i after
    | none => .next after.tick

end Sys2Proof.Machine
end

