-- ==== Sys2Proof/Safety.lean ====
section
/-! DEFINITION. The states a run may be in: for each unit, what the spec says always holds of it. Each is decidable. -/

namespace Sys2Proof.Safety

open Sys2Proof.Machine

/-- The output unit is SAFE_HELD exactly when its hold-cause set is not empty (R123). -/
abbrev OutputsSound (s : State) : Prop :=
  s.output.mode = .safeHeld ↔ s.output.causes ≠ HoldCauses.empty

/-- The STOP active condition is what R56 defines, and while STOP is active the outputs are SAFE_HELD with STOP among the causes
(R57). While RESETn is low it is not yet decided (log 19). -/
abbrev StopSound (s : State) : Prop :=
  (s.held = true → s.protection.stopActive = false) ∧
  (s.held = false → s.protection.stopActive = s.stopCondition) ∧
  (s.protection.stopActive = true → s.output.mode = .safeHeld ∧ s.output.causes.stop = true)

/-- A qualification is in progress exactly while the raw level differs from the filtered one, under a code that has a filter time,
and has not lasted longer than that time (R97, R98). -/
abbrev QualificationSound (raw filtered : Bool) (code : Fin 8) (qualifying : Option Nat) : Prop :=
  (qualifying = none → raw = filtered) ∧
  ∀ elapsed ∈ qualifying, raw ≠ filtered ∧ code ≠ 0 ∧ elapsed ≤ filterTime code

/-- Every channel and the STOP pin qualify as R97, R98 and R54 say; while RESETn is low nothing is qualified (R95). -/
abbrev InputsSound (s : State) : Prop :=
  (∀ n : Fin 32, QualificationSound (s.channel n).raw (s.channel n).filtered (s.channel n).code (s.channel n).qualifying) ∧
  QualificationSound s.input.stop.raw s.input.stop.filtered s.protection.stopCode s.input.stop.qualifying ∧
  (s.held = true → (∀ n : Fin 32, (s.channel n).qualifying = none) ∧ s.input.stop.qualifying = none)

/-- A repeat count is 1 to 255, and there is a last time exactly when it is 2 or more (R2, R6). -/
abbrev Account.Sound (a : Account) : Prop :=
  1 ≤ a.count ∧ a.count ≤ 255 ∧ (a.last = none ↔ a.count = 1)

/-- The record of an urgent source holds the fixed values of R1; a maskable source stands at level 0 to 3, its budget is 1 to 255 in
CAPTURE and 0 in REPORT, and only sources 0 to 35 capture (R2, R12). -/
abbrev RecordSound (n : Fin 42) (r : SourceRecord) : Prop :=
  (40 ≤ n.val → r.mask = .unmasked ∧ r.level = .urgent ∧ r.mode = .report ∧ r.ring = 0) ∧
  (n.val < 40 → r.level ≠ .urgent) ∧
  (r.mode = .report → r.budget = 0) ∧
  (r.mode = .capture → n.val < 36 ∧ 1 ≤ r.budget ∧ r.budget ≤ 255) ∧
  (∀ a ∈ r.account, Account.Sound a)

/-- Every source record is sound. -/
abbrev SourcesSound (s : State) : Prop := ∀ n : Fin 42, RecordSound n (s.source n)

/-- `inner` may stand directly or indirectly above `outer` on the stack (R24): no urgent entry below a maskable one, STOP above
SILENCE, and maskable levels more urgent upwards, or both 3. -/
abbrev MayStandAbove (inner outer : Entry) : Prop :=
  if isUrgent inner.source then isUrgent outer.source = true → inner.source = stopSource ∧ outer.source = silenceSource
  else isUrgent outer.source = false ∧
    (inner.level.moreUrgent outer.level = true ∨ (inner.level = .level3 ∧ outer.level = .level3))

/-- An entry holds U exactly when its source is urgent, 1 to 8 attempts, and a sound account (R23). -/
abbrev EntrySound (e : Entry) : Prop :=
  (e.level = .urgent ↔ isUrgent e.source = true) ∧ 1 ≤ e.attempts ∧ e.attempts ≤ 8 ∧ Account.Sound e.account

/-- The service stack keeps its order and its limits (R24), each source has at most one entry (R25), and only the innermost entry may
be OFFERED (R27). -/
abbrev StackSound (s : State) : Prop :=
  s.delivery.stack.Pairwise MayStandAbove ∧
  s.delivery.maskableEntries.length ≤ 6 ∧
  (s.delivery.stack.map Entry.source).Nodup ∧
  (∀ e ∈ s.delivery.stack, EntrySound e) ∧
  (∀ e ∈ s.delivery.stack.tail, e.phase = .taken)

/-- While an entry is OFFERED the gate is CLOSED and the delivery state is DELIVERING (R26, R27); the settings are in their ranges
(R50); the take timer runs for an OFFERED entry alone (R37). -/
abbrev OfferSound (s : State) : Prop :=
  ((∃ e ∈ s.delivery.stack, e.phase = .offered) → s.delivery.gate = .closed ∧ s.delivery.mode = .delivering) ∧
  (s.delivery.takeTimer.isSome = true → ∃ e ∈ s.delivery.stack, e.phase = .offered) ∧
  1 ≤ s.delivery.takeTimeout ∧ s.delivery.takeTimeout ≤ 255 ∧ s.delivery.retryLimit ≤ 7

/-- The notice numbers of the entries are pairwise distinct, and the next offer's number is none of them (R34). -/
abbrev NoticesSound (s : State) : Prop :=
  (s.delivery.stack.map Entry.notice).Nodup ∧ s.delivery.noticeCounter ∉ s.delivery.stack.map Entry.notice ∧
  s.delivery.stack.length ≤ 8

/-- A notice that waits in the notice slot is the EVENT of the innermost entry, which is OFFERED, and whose take timer does not run
(R36, R37). -/
abbrev NoticeSlotSound (s : State) : Prop :=
  (s.delivery.takeTimer.isSome = true → s.link.noticeSlot = none) ∧
  ∀ e ∈ s.link.noticeSlot,
    (s.delivery.stack.head?.map fun o => (o.phase, o.event s.delivery.stack.length)) = some (ServicePhase.offered, e)

/-- A capture ring holds at most 64 records, of sources 0 to 35, whose ring sequence numbers rise by 1 to the number before the
counter (R71, R72, R75); its watermark is 0 to 64 (R70). -/
abbrev RingSound (r : Ring) : Prop :=
  r.records.length ≤ Config.ringCapacity ∧ r.watermark ≤ 64 ∧
  (∀ c ∈ r.records, c.source.val < 36) ∧
  ∀ i : Fin r.records.length, r.records[i].sequence + BitVec.ofNat 16 (r.records.length - i.val) = r.counter

/-- Every ring is sound. -/
abbrev RingsSound (s : State) : Prop := ∀ n : Fin 4, RingSound (s.ring n)

/-- Mode, phase and remaining time stand in one of the combinations of R113, or in one more of the model's own: RUNNING at remaining 0,
due and not yet expired (log 12, log 15). -/
abbrev TimerSound (t : IntervalTimer) : Prop :=
  t.period ≤ 65535 ∧
  (t.mode = .off → t.phase = .stopped) ∧
  (t.mode = .once ∨ t.mode = .repeating → t.phase = .running) ∧
  (t.mode = .onTrigger → t.phase ≠ .stopped) ∧
  (t.mode ≠ .off → 1 ≤ t.period) ∧
  (t.phase ≠ .running → t.remaining = 0) ∧
  t.remaining ≤ t.periodTime ∧
  (t.trigger.isSome = true ↔ t.mode = .onTrigger)

/-- Every interval timer is sound. -/
abbrev TimersSound (s : State) : Prop := ∀ n : Fin 4, TimerSound (s.intervalTimer n)

/-- The assembly buffer is empty while HUNTING; while ASSEMBLING it begins with A6h, its length byte is at most 80, and it holds fewer
characters than the whole frame (R138, R139, R140). -/
abbrev ReceiverSound (s : State) : Prop :=
  (s.link.frame = .hunting → s.link.buffer = []) ∧
  (s.link.frame = .assembling → s.link.buffer.head? = some 0xA6) ∧
  ∀ length ∈ s.link.buffer[1]?, length.toNat ≤ 80 ∧ s.link.buffer.length < length.toNat + 6

/-- The reply queue holds at most 4 frames, and the reply log at most 4 answers with pairwise distinct sequence numbers (R159). -/
abbrev RepliesSound (s : State) : Prop :=
  s.command.replyQueue.length ≤ Config.replyCapacity ∧ s.command.replyLog.length ≤ Config.replyCapacity ∧
  (s.command.replyLog.map LogEntry.sequence).Nodup

/-- An answer is the REPLY to RESTART. -/
def isRestartReply : Answer → Bool
  | .reply kind _ => kind == 0x1A
  | .refused _ _ _ => false

/-- The frame being sent is the REPLY to RESTART. -/
def sendsRestartReply (l : LinkUnit) : Bool :=
  match l.sending with
  | some { frame := .answer f, .. } => isRestartReply f.answer
  | _ => false

/-- While the restart window is open the intake slot is empty (R166) and the REPLY to RESTART waits or is being sent (R165, R167);
while it is closed no such REPLY waits, is sent or is logged. -/
abbrev WindowSound (s : State) : Prop :=
  if s.command.window then
    s.link.intake = none ∧
      ((s.command.replyQueue.any fun f => isRestartReply f.answer) = true ∨ sendsRestartReply s.link = true)
  else
    (s.command.replyQueue.any fun f => isRestartReply f.answer) = false ∧ sendsRestartReply s.link = false ∧
      (s.command.replyLog.any fun e => isRestartReply e.answer) = false

/-- An occurrence or a trigger is on its way for at most one microsecond (R4). -/
abbrev TransitSound (s : State) : Prop :=
  (∀ x ∈ s.event.arriving, x.age ≤ 1) ∧ (∀ x ∈ s.timer.arriving, x.age ≤ 1)

/-- While RESETn is low the units hold their power-on values (R163), the pins' levels apart. -/
abbrev HeldSound (s : State) : Prop :=
  s.held = true →
    s.timer = TimerUnit.reset ∧ s.event = EventUnit.reset ∧ s.capture = CaptureUnit.reset ∧ s.delivery = DeliveryUnit.reset ∧
      s.protection = ProtectionUnit.reset ∧ s.output = OutputUnit.reset ∧ s.link = LinkUnit.reset ∧
      s.command = CommandUnit.reset ∧ ∀ n : Fin 32, (s.channel n).edge = .none ∧ (s.channel n).code = 0

end Sys2Proof.Safety
end

