-- ==== Sys2Proof/Certificates/Slice0/Obligations.lean ====
section
/-! DEFINITION. The statements for the provers. The helpers say, in the spec's own terms, what the statements share: when a request
stands, what its answer does to the link and the command unit, when a source is chosen, what a report of an accepted change sends. -/

namespace Sys2Proof.Slice0

open Sys2Proof.Machine Sys2Proof.Safety

/-! ### Vocabulary -/

/-- A new request of this kind, sequence and payload stands in the intake slot and can be taken: the part is not held in reset, the
restart window is closed, the reply queue has a free place, and no logged answer has its sequence number (R152, R160). -/
abbrev Stands (s : State) (kind sequence : Byte) (payload : List Byte) : Prop :=
  s.held = false ∧ s.command.window = false ∧
  s.link.intake = some { kind := kind, sequence := sequence, payload := payload } ∧
  s.command.replyQueue.length < 4 ∧ ∀ e ∈ s.command.replyLog, e.sequence ≠ sequence

/-- The last four entries of a log (R159). -/
def lastFour (log : List LogEntry) : List LogEntry := log.drop (log.length - 4)

/-- An accepted change of this kind matches the edge select (R100). -/
abbrev Matches (edge : EdgeSelect) (rising : Bool) : Prop :=
  edge = .both ∨ (edge = .rise ∧ rising = true) ∨ (edge = .fall ∧ rising = false)

/-- A listed channel of a SET INPUT with this edge select and filter code, from `s` to `t`, whose qualification is accepted because the
filter code changes to 0, and whose change matches the new edge select (R98, R100, R106). -/
abbrev Reported (s t : State) (edge code : Byte) (list : List Byte) (n : Fin 32) : Prop :=
  (∃ b ∈ list, b.toNat = n.val) ∧ (s.channel n).qualifying ≠ none ∧ (s.channel n).raw ≠ (s.channel n).filtered ∧
  (s.channel n).code ≠ 0 ∧ code = 0 ∧ Matches (t.channel n).edge (s.channel n).raw ∧ (t.channel n).edge.code = edge

/-- What taking a request and answering it does to the link and the command unit of `t`, the state its execution leaves: the slot is
emptied, the answer joins the queue with the notes set, which is emptied, and joins the log, which keeps four (R147, R152, R159). -/
def answered (t : State) (sequence : Byte) (a : Answer) : State :=
  { t with
    link := { t.link with intake := none, notes := Notes.empty }
    command := { t.command with
      replyQueue := t.command.replyQueue ++ [{ sequence := sequence, answer := a, notes := t.link.notes }]
      replyLog := lastFour (t.command.replyLog ++ [{ sequence := sequence, answer := a }]) } }

/-- The command answers next `t`. -/
abbrev Gives (c : Instr) (s t : State) : Prop := exec c s = .next t

/-- A request's row refuses: nothing changes but the answer (R153). -/
abbrev Refuses (c : Instr) (s : State) (kind sequence code detail : Byte) : Prop :=
  Gives c s (answered s sequence (.refused kind code detail))

/-- A request's row executes: `t` is what the request does to the units, and the REPLY carries `data` (R157). -/
abbrev Replies (c : Instr) (s t : State) (kind sequence : Byte) (data : List Byte) : Prop :=
  Gives c s (answered t sequence (.reply kind data))

/-- The occurrence and the trigger of a matching change of channel `n`, which has been made in `s` (R100, R101, R102). -/
def withReport (s : State) (n : Fin 32) : State :=
  { s with
    event := { s.event with
      arriving := s.event.arriving ++
        [{ occurrence := .edge n (s.channel n).filtered s.timer.timeBase s.input.filteredLevels, age := 0 }] }
    timer := { s.timer with arriving := s.timer.arriving ++ [{ channel := n, age := 0 }] } }

/-- The report of an accepted change of channel `n` made in `s`, or none when it does not match (R100). -/
def reportIfMatching (s : State) (n : Fin 32) : State :=
  if Matches (s.channel n).edge (s.channel n).filtered then withReport s n else s

/-- The state after the STOP active condition has been evaluated as `active` in `s`: a turn to active adds the hold cause STOP, makes
the outputs SAFE_HELD and sends the occurrence of source 40; any other evaluation only writes the condition (R56, R57, R58). -/
def stopEvaluated (s : State) (active : Bool) : State :=
  if active = true ∧ s.protection.stopActive = false then
    { s with
      protection := { s.protection with stopActive := true }
      output := { s.output with causes := { s.output.causes with stop := true }, mode := .safeHeld }
      event := { s.event with arriving := s.event.arriving ++ [{ occurrence := .stop, age := 0 }] } }
  else { s with protection := { s.protection with stopActive := active } }

/-- The offer slot is free (R27). -/
abbrev SlotFree (s : State) : Prop :=
  s.held = false ∧ s.delivery.mode = .delivering ∧ (∀ e ∈ s.delivery.stack, e.phase = .taken) ∧ s.command.window = false

/-- The source has an entry in the service stack (R25). -/
abbrev InService (s : State) (n : Fin 42) : Prop := ∃ e ∈ s.delivery.stack, e.source = n

/-- Source 40 is a candidate (R28). -/
abbrev StopCandidate (s : State) : Prop := (s.source 40).account ≠ none ∧ ¬ InService s 40

/-- Source 41 is a candidate (R28). -/
abbrev SilenceCandidate (s : State) : Prop :=
  (s.source 41).account ≠ none ∧ ¬ InService s 40 ∧ ¬ InService s 41

/-- The innermost maskable entry: the first of source 0 to 39 from the innermost end (R29). -/
def innermostMaskable (s : State) : Option Entry := s.delivery.stack.find? fun e => decide (e.source.val < 40)

/-- A maskable source is a candidate (R29, R30). -/
abbrev MaskableCandidate (s : State) (n : Fin 42) : Prop :=
  n.val < 40 ∧ (s.source n).account ≠ none ∧ (s.source n).mask = .unmasked ∧ ¬ InService s n ∧ s.delivery.gate = .opened ∧
  (∀ e ∈ s.delivery.stack, e.source.val < 40) ∧ s.delivery.stack.length < 6 ∧
  ∀ e ∈ innermostMaskable s,
    (s.source n).level.rank < e.level.rank ∨
      (s.delivery.reentry = true ∧ (s.source n).level = .level3 ∧ e.level = .level3)

/-- The source that the delivery unit chooses among the candidates (R27, R28, R31). -/
abbrev IsChosen (s : State) (n : Fin 42) : Prop :=
  (n = 40 ∧ StopCandidate s) ∨
  (n = 41 ∧ ¬ StopCandidate s ∧ SilenceCandidate s) ∨
  (¬ StopCandidate s ∧ ¬ SilenceCandidate s ∧ MaskableCandidate s n ∧
    ∀ m, MaskableCandidate s m →
      (s.source n).level.rank < (s.source m).level.rank ∨
        ((s.source n).level.rank = (s.source m).level.rank ∧ n.val ≤ m.val))

/-- The commands of one clean character on RXD: its start bit, and its receipt with even parity and a high stop bit (R133). -/
def characterCommands (b : Byte) : List Instr := [.startBit, .characterReceived b (oddOnes b) true]

/-- Commands executed one after another. -/
def runCommands : List Instr → State → Host.Outcome State Fault Refusal
  | [], s => .next s
  | c :: rest, s =>
    match exec c s with
    | .next t => runCommands rest t
    | .fault r => .fault r
    | .refused r => .refused r

/-- The state with its receiver idle and HUNTING, the gap interval begun afresh. -/
def huntingAgain (s : State) : State :=
  { s with link := { s.link with line := .idle, gap := 0, frame := .hunting, buffer := [] } }

/-- What the valid-frame signal does (R61, R42): the silence timer restarts unless its timeout is 0, and SUSPENDED ends with the note
RESUMED. -/
def signalled (s : State) : State :=
  { s with
    protection := { s.protection with
      silenceTimer :=
        if s.protection.silenceTimeout = 0 then s.protection.silenceTimer
        else some (s.protection.silenceTimeout * 10000) }
    delivery := { s.delivery with mode := .delivering }
    link := { s.link with
      notes := if s.delivery.mode = .suspended then { s.link.notes with resumed := true } else s.link.notes } }

/-- The disposal of a valid frame (R144), a waiting duplicate being discarded as soon as it is in the slot (R160). -/
def disposed (s : State) (r : Request) : State :=
  if s.command.window = true then s
  else if s.link.intake ≠ none then { s with link := { s.link with notes := { s.link.notes with overrun := true } } }
  else if (∃ e ∈ s.command.replyLog, e.sequence = r.sequence) ∧ (∃ f ∈ s.command.replyQueue, f.sequence = r.sequence) then s
  else { s with link := { s.link with intake := some r } }

/-- The 26 requests: the row, its kind code, and the payload lengths of its kind (R170, R154). -/
def requestTable : List (Instr × Byte × List Nat) :=
  [(.ping, 0x01, [0]), (.setSource, 0x02, [6]), (.getSource, 0x03, [1]), (.maskList, 0x04, (List.range 40).map (· + 2)),
    (.clearSource, 0x05, [1]), (.setDelivery, 0x06, [3]), (.readStack, 0x07, [0]), (.gate, 0x08, [1]), (.take, 0x09, [1]),
    (.done, 0x0A, [1]), (.setInput, 0x0B, (List.range 32).map (· + 3)), (.readInputs, 0x0C, [0]), (.setTimer, 0x0D, [5]),
    (.getTimer, 0x0E, [1]), (.setTime, 0x0F, [4]), (.getTime, 0x10, [0]), (.setRing, 0x11, [3]), (.drainRing, 0x12, [2]),
    (.discardRing, 0x13, [1]), (.setOutputs, 0x14, [2]), (.holdOutputs, 0x15, [0]), (.releaseOutputs, 0x16, [2]),
    (.setSafe, 0x17, [2]), (.setStop, 0x18, [4]), (.setSilence, 0x19, [2]), (.restart, 0x1A, [1])]

/-- The five guarded requests with their kind codes and payload lengths (R155, R170). -/
def guardedTable : List (Instr × Byte × Nat) :=
  [(.releaseOutputs, 0x16, 2), (.setSafe, 0x17, 2), (.setStop, 0x18, 4), (.setSilence, 0x19, 2), (.restart, 0x1A, 1)]

/-- The first check that refuses a SET SOURCE, as refusal code and detail: the fields in the order of the payload, then the
conflicts (R17). -/
def setSourceRefusal (source mask level mode ring budget : Byte) : Option (Byte × Byte) :=
  if 41 < source.toNat then some (0x04, 0)
  else if 1 < mask.toNat then some (0x04, 1)
  else if 3 < level.toNat then some (0x04, 2)
  else if 1 < mode.toNat then some (0x04, 3)
  else if 3 < ring.toNat then some (0x04, 4)
  else if mode = 1 ∧ budget = 0 then some (0x04, 5)
  else if 40 ≤ source.toNat ∨ (36 ≤ source.toNat ∧ mode = 1) then some (0x05, source)
  else none

/-- The first check that refuses a SET TIMER (R119). -/
def setTimerRefusal (timer mode high low trigger : Byte) : Option (Byte × Byte) :=
  if 3 < timer.toNat then some (0x04, 0)
  else if 3 < mode.toNat then some (0x04, 1)
  else if high = 0 ∧ low = 0 ∧ mode ≠ 0 then some (0x04, 2)
  else if 31 < trigger.toNat ∧ trigger ≠ 0xFF then some (0x04, 4)
  else if trigger = 0xFF ∧ mode = 3 then some (0x04, 4)
  else none

/-- The own step `c` of the part is due in `s`, which is not held in reset: the qualification, timer, limit or frame it ends has run its
whole time (R97, R54, R115, R62, R37, R43, R135, R141, R148); an offer can be made (R27 to R31); the transmitter is free and a frame waits
(R149); the command unit can take the request in the slot (R152, R154, R160); what was on its way has been so for a microsecond (R4).
The outside's commands are never due. That the break limit does not ask whether the line was low throughout, as R135 does, is the
model's choice (log 26); line times are counted by log 10, and a waiting answer is told by its sequence number (log 13). -/
def Due (s : State) (c : Instr) : Prop :=
  match c with
  | .qualificationEnd channel =>
    ∃ n : Fin 32, n.val = channel ∧ (s.channel n).raw ≠ (s.channel n).filtered ∧
      ∃ elapsed ∈ (s.channel n).qualifying, filterTime (s.channel n).code ≤ elapsed
  | .stopQualificationEnd =>
    s.input.stop.raw ≠ s.input.stop.filtered ∧
      ∃ elapsed ∈ s.input.stop.qualifying, filterTime s.protection.stopCode ≤ elapsed
  | .timerExpiry timer =>
    ∃ n : Fin 4, n.val = timer ∧ (s.intervalTimer n).phase = .running ∧ (s.intervalTimer n).remaining = 0
  | .silenceExpiry => s.protection.silenceTimer = some 0
  | .takeTimerExpiry =>
    s.command.window = false ∧ s.delivery.takeTimer = some 0 ∧ ∃ e ∈ s.delivery.stack.head?, e.phase = .offered
  | .breakLimit => ∃ elapsed, s.link.line = .inCharacter elapsed ∧ 2 * characterUnits s.link.rate ≤ elapsed
  | .gapLimit => s.link.frame = .assembling ∧ s.link.line = .idle ∧ 20 * characterUnits s.link.rate ≤ s.link.gap
  | .frameEnd => ∃ x ∈ s.link.sending, (x.frame.payload.length + 6) * characterUnits s.link.rate ≤ x.elapsed
  | .makeOffer => SlotFree s ∧ (StopCandidate s ∨ SilenceCandidate s ∨ ∃ n, MaskableCandidate s n)
  | .arbiterChoice =>
    s.link.sending = none ∧
      (s.command.startNotice ≠ none ∨ s.command.replyQueue ≠ [] ∨ s.link.noticeSlot ≠ none)
  | .replay =>
    s.command.window = false ∧ ∃ r ∈ s.link.intake, (∃ e ∈ s.command.replyLog, e.sequence = r.sequence) ∧
      ((∃ f ∈ s.command.replyQueue, f.sequence = r.sequence) ∨ s.command.replyQueue.length < 4)
  | .badKind =>
    ∃ kind sequence payload, Stands s kind sequence payload ∧ (kind = 0 ∨ 0x1B ≤ kind.toNat)
  | .occurrenceArrival source => ∃ x ∈ s.event.arriving, 1 ≤ x.age ∧ x.occurrence.source.val = source
  | .triggerArrival channel => ∃ x ∈ s.timer.arriving, 1 ≤ x.age ∧ x.channel.val = channel
  | .powerOn | .resetRelease _ _ _ _ | .inputPinChange _ _ | .stopPinChange _ | .characterReceived _ _ _ | .startBit
  | .breakEnd => False
  | .ping | .setSource | .getSource | .maskList | .clearSource | .setDelivery | .readStack | .gate | .take | .done
  | .setInput | .readInputs | .setTimer | .getTimer | .setTime | .getTime | .setRing | .drainRing | .discardRing
  | .setOutputs | .holdOutputs | .releaseOutputs | .setSafe | .setStop | .setSilence | .restart =>
    ∃ kind lengths sequence payload, (c, kind, lengths) ∈ requestTable ∧ Stands s kind sequence payload

/-- `c` is the arrival of an occurrence or a trigger that is on its way in `s`, whatever its age (R4). -/
def Arrives (s : State) (c : Instr) : Prop :=
  (∃ x ∈ s.event.arriving, c = .occurrenceArrival x.occurrence.source.val) ∨
  (∃ x ∈ s.timer.arriving, c = .triggerArrival x.channel.val)

/-- `t` is `s` one microsecond later: the time base and every running count have moved by one microsecond (288 line units), what is on
its way is one microsecond older, and nothing else has changed (R109, R115, R97, R54, R61, R37, R43, R4, R135, R141, R148). -/
def MicrosecondLater (s t : State) : Prop :=
  t.timer.timeBase = s.timer.timeBase + 1 ∧
  (∀ n, t.intervalTimer n =
    if (s.intervalTimer n).phase = .running then
      { s.intervalTimer n with remaining := (s.intervalTimer n).remaining - 1 }
    else s.intervalTimer n) ∧
  t.timer.arriving = s.timer.arriving.map (fun x => { x with age := x.age + 1 }) ∧
  (∀ n, t.channel n = { s.channel n with qualifying := (s.channel n).qualifying.map (· + 1) }) ∧
  t.input.stop = { s.input.stop with qualifying := s.input.stop.qualifying.map (· + 1) } ∧
  t.event = { s.event with arriving := s.event.arriving.map fun x => { x with age := x.age + 1 } } ∧
  t.protection = { s.protection with silenceTimer := s.protection.silenceTimer.map (· - 1) } ∧
  t.delivery = { s.delivery with
    takeTimer := if s.command.window = true then s.delivery.takeTimer else s.delivery.takeTimer.map (· - 1) } ∧
  t.link = { s.link with
    sending := s.link.sending.map fun x => { x with elapsed := x.elapsed + 288 }
    line := (match s.link.line with
      | .inCharacter elapsed => .inCharacter (elapsed + 288)
      | .idle => .idle
      | .waitingHigh => .waitingHigh)
    gap := if s.link.frame = .assembling ∧ s.link.line = .idle then s.link.gap + 288 else s.link.gap } ∧
  t.capture = s.capture ∧ t.output = s.output ∧ t.command = s.command ∧ t.held = s.held ∧ t.pending = s.pending ∧
  t.choices = s.choices

/-- The number of ones in a byte. -/
def onesOf (b : Byte) : Nat := ((List.range 8).filter fun i => b.getLsbD i).length

/-- Bit `j` of a character: a low start bit, 8 data bits from the least significant, the parity bit that makes the number of ones even,
and a high stop bit (R133). -/
def characterBit (b : Byte) (j : Nat) : Bool :=
  if j = 0 then false else if j ≤ 8 then b.getLsbD (j - 1) else if j = 9 then decide (onesOf b % 2 = 1) else true

end Sys2Proof.Slice0

open Sys2Proof Sys2Proof.Machine Sys2Proof.Safety Sys2Proof.Slice0

/-! ### The step, reset, and the invariants -/

/-- A step with a command waiting is that command's effect on the state with the queue's rest. The model's reading: log 1. -/
def Obligations.StepRunsTheFrontCommand : Prop :=
  ∀ (c : Instr) (s : State) (rest : List Instr), s.pending = c :: rest → step s = exec c { s with pending := rest }

/-- On an empty queue with no step of its own due, one microsecond passes and nothing else changes; while something is on its way, either
that, or its arrival, as a free choice falls, which counts the choice. Nothing passes while RESETn is low (R109, R163). The model's
choice: log 1, log 2, log 5, log 10, log 12. -/
def Obligations.TimePassesWhileNothingIsDue : Prop :=
  (∀ s : State, s.held = false → MicrosecondLater s s.tick) ∧
  (∀ s : State, s.pending = [] → s.held = false → s.dueSteps = [] → s.event.arriving = [] → s.timer.arriving = [] →
    step s = .next s.tick) ∧
  (∀ s : State, s.pending = [] → s.held = false → s.dueSteps = [] → s.event.arriving ≠ [] ∨ s.timer.arriving ≠ [] →
    step s = .next { s with choices := s.choices + 1 }.tick ∨
      ∃ c, Arrives s c ∧ step s = exec c { s with choices := s.choices + 1 }) ∧
  (∀ s : State, s.pending = [] → s.held = true → step s = .next s)

/-- The steps of its own that the part may take before time passes are those that the spec makes due (R4, R27, R37, R54, R62, R97, R115,
R141, R148, R149, R152, R154, R160), and the break limit two character times after the start bit of a character not yet received, whatever
its bits were, which is the model's choice where the line was not low throughout (R135, log 26); and on an empty queue, while one is due, no time passes: the part takes a step that is due, or
the arrival of something on its way. The model's choice: log 1, log 2, log 5, log 10, log 12, log 13. -/
def Obligations.DueStepsAreTakenBeforeTimePasses : Prop :=
  (∀ (s : State) (c : Instr), c ∈ s.dueSteps ↔ s.held = false ∧ Due s c) ∧
  (∀ s : State, s.pending = [] → s.dueSteps ≠ [] →
    ∃ (c : Instr) (choices : Nat), (c ∈ s.dueSteps ∨ Arrives s c) ∧ (choices = s.choices ∨ choices = s.choices + 1) ∧
      step s = exec c { s with choices := choices })

/-- The state after reset holds the power-on values that the spec gives (R3, R52, R53, R74, R109, R114, R124, R138, R144, R146, R151), and
meets every invariant stated here. -/
def Obligations.ResetHoldsThePowerOnValuesAndTheInvariants : Prop :=
  (∀ n : Fin 42, State.reset.source n =
    { mask := if n.val < 40 then .masked else .unmasked, level := if n.val < 40 then .level3 else .urgent, mode := .report,
      ring := 0, budget := 0, account := none }) ∧
  State.reset.delivery =
    { stack := [], gate := .closed, mode := .delivering, noticeCounter := 0, takeTimer := none, takeTimeout := 25,
      retryLimit := 3, reentry := false } ∧
  (State.reset.protection.stopEnable = true ∧ State.reset.protection.stopActiveLevel = false ∧
    State.reset.protection.stopCode = 3 ∧ State.reset.protection.silenceTimeout = 0 ∧
    State.reset.protection.silenceTimer = none) ∧
  (∀ r : Fin 4, State.reset.ring r = { records := [], counter := 0, snapshot := false, watermark := 0 }) ∧
  (∀ n : Fin 32, (State.reset.channel n).edge = .none ∧ (State.reset.channel n).code = 0 ∧
    (State.reset.channel n).qualifying = none) ∧
  State.reset.timer.timeBase = 0 ∧
  (∀ n : Fin 4, State.reset.intervalTimer n =
    { mode := .off, phase := .stopped, period := 0, remaining := 0, trigger := none }) ∧
  (State.reset.output.livePattern = 0 ∧ State.reset.output.safePattern = 0 ∧ State.reset.output.mode = .safeHeld ∧
    State.reset.output.causes = { start := true, stop := false, silence := false, host := false }) ∧
  (State.reset.link.frame = .hunting ∧ State.reset.link.buffer = [] ∧ State.reset.link.intake = none ∧
    State.reset.link.notes = Notes.empty ∧ State.reset.link.noticeSlot = none ∧ State.reset.link.sending = none) ∧
  State.reset.command =
    { replyQueue := [], replyLog := [], window := false, lastReset := .power, startNotice := none } ∧
  OutputsSound State.reset ∧ StopSound State.reset ∧ InputsSound State.reset ∧ SourcesSound State.reset ∧
  StackSound State.reset ∧ OfferSound State.reset ∧ NoticesSound State.reset ∧ NoticeSlotSound State.reset ∧
  RingsSound State.reset ∧ TimersSound State.reset ∧ ReceiverSound State.reset ∧ RepliesSound State.reset ∧
  WindowSound State.reset ∧ TransitSound State.reset ∧ HeldSound State.reset

/-- Every step keeps the outputs SAFE_HELD exactly while a hold cause stands, and STOP among the causes while STOP is active (R57,
R123). The model's reading: log 19. -/
def Obligations.StepKeepsTheOutputsHeldByTheirCauses : Prop :=
  ∀ s t : State, OutputsSound s → StopSound s → step s = .next t → OutputsSound t ∧ StopSound t

/-- Every step keeps the qualification of the channels and of the STOP pin sound: no difference of levels goes unqualified, and no
qualification outlasts its filter time (R97, R98, R54, R55). The model's reading: log 12. -/
def Obligations.StepKeepsQualificationsSound : Prop :=
  ∀ s t : State, InputsSound s → step s = .next t → InputsSound t

/-- Every step keeps the source records, the order and limits of the service stack, the closed gate under an offer, the distinct notice
numbers, and the waiting notice (R2, R12, R23 to R27, R34, R36). The model's reading: log 23. -/
def Obligations.StepKeepsSourcesAndStackSound : Prop :=
  ∀ s t : State,
    SourcesSound s ∧ StackSound s ∧ OfferSound s ∧ NoticesSound s ∧ NoticeSlotSound s → step s = .next t →
    SourcesSound t ∧ StackSound t ∧ OfferSound t ∧ NoticesSound t ∧ NoticeSlotSound t

/-- Every step keeps each capture ring within 64 records, whose ring sequence numbers rise by 1 up to the counter (R71). -/
def Obligations.StepKeepsRingsInSequence : Prop :=
  ∀ s t : State, RingsSound s → step s = .next t → RingsSound t

/-- Every step keeps the mode, phase and remaining time of each interval timer in one of the combinations of the spec (R113), with one
more of the model's own: a RUNNING timer at remaining 0, which is due and whose expiry has not been taken yet (log 12, log 15). -/
def Obligations.StepKeepsTimersInTheirCombinations : Prop :=
  ∀ s t : State, TimersSound s → step s = .next t → TimersSound t

/-- Every step keeps the assembly buffer sound (R138, R139, R140), and the reply queue and the reply log within 4, the log's sequence numbers
distinct (R159). -/
def Obligations.StepKeepsBufferQueueAndLogInBounds : Prop :=
  ∀ s t : State, step s = .next t → (ReceiverSound s → ReceiverSound t) ∧ (RepliesSound s → RepliesSound t)

/-- Every step keeps the restart window open exactly while the REPLY to RESTART waits or is sent, the intake slot empty in it (R165,
R166, R167). The model's reading: log 18. -/
def Obligations.StepKeepsTheRestartWindowSound : Prop :=
  ∀ s t : State, WindowSound s → step s = .next t → WindowSound t

/-- Every step keeps what is on its way no older than one microsecond (R4), and the power-on values of the units while RESETn is low
(R163). The model's reading: log 5, log 17. -/
def Obligations.StepKeepsArrivalsInTimeAndPowerOnValuesWhileHeld : Prop :=
  ∀ s t : State, step s = .next t → (TransitSound s → TransitSound t) ∧ (HeldSound s → HeldSound t)

/-- Only RELEASE OUTPUTS makes outputs that are SAFE_HELD LIVE, and only while STOP is not active (R123, R129). -/
def Obligations.OnlyReleaseOutputsEndsTheHold : Prop :=
  ∀ (c : Instr) (s t : State), s.output.mode = .safeHeld → Gives c s t → t.output.mode = .live →
    c = .releaseOutputs ∧ s.protection.stopActive = false

/-- Every command answers a next state, and none touches the queue of waiting commands or the count of free choices: the two are the
model's own (log 1, log 2). -/
def Obligations.EveryCommandAnswersAndLeavesTheQueue : Prop :=
  ∀ (c : Instr) (s : State), ∃ t, Gives c s t ∧ t.pending = s.pending ∧ t.choices = s.choices

/-- The receiver takes what a sender of frames sends: the characters of any frame with at most 80 payload bytes, sent to an idle hunting
receiver, are found valid and give the request with that kind, sequence and payload (R133, R136, R137, R139, R140, R143, R144). The
model's reading: log 11, log 13. -/
def Obligations.EveryFrameSentWholeIsReceived : Prop :=
  ∀ (s : State) (kind sequence : Byte) (payload : List Byte),
    s.held = false → s.link.line = .idle → s.link.frame = .hunting → payload.length ≤ 80 →
    runCommands ((frameBytes kind sequence payload).flatMap characterCommands) s =
      .next (disposed (signalled (huntingAgain s)) { kind := kind, sequence := sequence, payload := payload })

/-! ### Reset -/

/-- POWER_ON: every unit takes its power-on values, the pins' raw levels following the pins (R163, R95). That the
filtered levels follow the pins until the release (log 7, log 17), the rate 00 and a receiver that waits for RXD high (log 8), STOP not
active (log 19), and that the queue and the choice count stay (log 1, log 2), are the model's choice. -/
def Obligations.PowerOnTakesThePowerOnValues : Prop :=
  ∀ s : State, ∃ t, Gives .powerOn s t ∧ t.held = true ∧ t.timer = State.reset.timer ∧ t.event = State.reset.event ∧
    t.capture = State.reset.capture ∧ t.delivery = State.reset.delivery ∧ t.protection = State.reset.protection ∧
    t.output = State.reset.output ∧ t.link = State.reset.link ∧ t.command = State.reset.command ∧
    (∀ n, t.channel n =
      { raw := (s.channel n).raw, filtered := (s.channel n).raw, edge := .none, code := 0, qualifying := none }) ∧
    t.input.stop = { raw := s.input.stop.raw, filtered := s.input.stop.raw, qualifying := none } ∧
    t.pending = s.pending ∧ t.choices = s.choices

/-- RESET_RELEASE: the rate pins are read, the pins sampled, the STOP check made, and the START notice raised with cause POWER (R163,
R133, R95, R59, R134). The model's reading: log 6, log 9. -/
def Obligations.ResetReleaseSamplesAndChecksStop : Prop :=
  ∀ (s : State) (rate : BitVec 2) (pins : BitVec 32) (stopPin rxd : Bool), s.held = true →
    ∃ t, Gives (.resetRelease rate pins stopPin rxd) s t ∧ t.held = false ∧
      (∀ n, t.channel n =
        { s.channel n with raw := pins.getLsbD n.val, filtered := pins.getLsbD n.val, qualifying := none }) ∧
      t.input.stop = { raw := stopPin, filtered := stopPin, qualifying := none } ∧
      t.link = { s.link with rate := rate, line := if rxd = true then .idle else .waitingHigh } ∧
      (s.protection.stopEnable = true ∧ stopPin = s.protection.stopActiveLevel →
        t.protection = { s.protection with stopActive := true } ∧
        t.output = { s.output with causes := { s.output.causes with stop := true }, mode := .safeHeld } ∧
        t.source 40 = { s.source 40 with account := some (latchAccount s.timer.timeBase (s.source 40).account) }) ∧
      (¬ (s.protection.stopEnable = true ∧ stopPin = s.protection.stopActiveLevel) →
        t.protection = { s.protection with stopActive := false } ∧ t.output = s.output ∧ t.source 40 = s.source 40) ∧
      (∀ n, n ≠ 40 → t.source n = s.source n) ∧ t.event.arriving = s.event.arriving ∧
      t.command = { s.command with
        startNotice := some
          { cause := .power, outputState := t.output.mode, causes := t.output.causes,
            stopActive := t.protection.stopActive } } ∧
      t.timer = s.timer ∧ t.capture = s.capture ∧ t.delivery = s.delivery ∧ t.pending = s.pending ∧ t.choices = s.choices

/-! ### Input channels and the STOP pin -/

/-- INPUT_PIN_CHANGE: the raw level follows the pin; a return to the filtered level cancels the qualification; a difference starts one,
or is accepted at once under code 0 and reported if it matches (R97, R98, R100). While RESETn is low the filtered level follows too, and
nothing is qualified or reported; a pin that already stands at the level changes nothing. The model's reading: log 3, log 5, log 17, and
log 25 for a return as the filter time ends. -/
def Obligations.PinChangeStartsCancelsOrAccepts : Prop :=
  ∀ (s : State) (n : Fin 32) (level : Bool),
    (s.held = false → (s.channel n).raw ≠ level → level = (s.channel n).filtered →
      Gives (.inputPinChange n.val level) s (s.setChannel n { s.channel n with raw := level, qualifying := none })) ∧
    (s.held = false → (s.channel n).raw ≠ level → level ≠ (s.channel n).filtered → (s.channel n).code ≠ 0 →
      (s.channel n).qualifying = none →
      Gives (.inputPinChange n.val level) s (s.setChannel n { s.channel n with raw := level, qualifying := some 0 })) ∧
    (s.held = false → (s.channel n).raw ≠ level → level ≠ (s.channel n).filtered → (s.channel n).code = 0 →
      Gives (.inputPinChange n.val level) s
        (reportIfMatching
          (s.setChannel n { s.channel n with raw := level, filtered := level, qualifying := none }) n)) ∧
    (s.held = true → (s.channel n).raw ≠ level →
      Gives (.inputPinChange n.val level) s (s.setChannel n { s.channel n with raw := level, filtered := level })) ∧
    ((s.channel n).raw = level → Gives (.inputPinChange n.val level) s s)

/-- QUALIFICATION_END: once the filter time has passed the filtered level takes the raw level, and the accepted change is reported if
it matches; before, nothing happens (R97, R99, R100). The model's reading: the report travels by log 5, and an event before its time is
no step by log 3. -/
def Obligations.QualificationEndAcceptsTheChange : Prop :=
  ∀ (s : State) (n : Fin 32) (elapsed : Nat), s.held = false → (s.channel n).qualifying = some elapsed →
    (s.channel n).raw ≠ (s.channel n).filtered →
    (filterTime (s.channel n).code ≤ elapsed →
      Gives (.qualificationEnd n.val) s
        (reportIfMatching
          (s.setChannel n { s.channel n with filtered := (s.channel n).raw, qualifying := none }) n)) ∧
    (elapsed < filterTime (s.channel n).code → Gives (.qualificationEnd n.val) s s)

/-- STOP_PIN_CHANGE and STOP_QUALIFICATION_END: the STOP pin is qualified as a channel's, and an accepted change evaluates the STOP
active condition, with the hold claim and the occurrence when it turns active (R54, R56, R57, R58). While RESETn is low the filtered
level follows too, and nothing is qualified or evaluated; a pin that already stands at the level, and a qualification whose time has not
passed, change nothing. The model's reading: log 3, log 5, log 17, and log 25 for a return as the filter time ends. -/
def Obligations.StopPinIsQualifiedAndEvaluated : Prop :=
  ∀ (s : State) (level : Bool),
    (s.held = false → s.input.stop.raw ≠ level → level = s.input.stop.filtered →
      Gives (.stopPinChange level) s (s.setStopPin { s.input.stop with raw := level, qualifying := none })) ∧
    (s.held = false → s.input.stop.raw ≠ level → level ≠ s.input.stop.filtered → s.protection.stopCode ≠ 0 →
      s.input.stop.qualifying = none →
      Gives (.stopPinChange level) s (s.setStopPin { s.input.stop with raw := level, qualifying := some 0 })) ∧
    (s.held = false → s.input.stop.raw ≠ level → level ≠ s.input.stop.filtered → s.protection.stopCode = 0 →
      Gives (.stopPinChange level) s
        (stopEvaluated (s.setStopPin { raw := level, filtered := level, qualifying := none })
          (s.protection.stopEnable && (level == s.protection.stopActiveLevel)))) ∧
    (∀ elapsed, s.held = false → s.input.stop.qualifying = some elapsed → s.input.stop.raw ≠ s.input.stop.filtered →
      filterTime s.protection.stopCode ≤ elapsed →
      Gives .stopQualificationEnd s
        (stopEvaluated
          (s.setStopPin { raw := s.input.stop.raw, filtered := s.input.stop.raw, qualifying := none })
          (s.protection.stopEnable && (s.input.stop.raw == s.protection.stopActiveLevel)))) ∧
    (∀ elapsed, s.input.stop.qualifying = some elapsed → elapsed < filterTime s.protection.stopCode →
      Gives .stopQualificationEnd s s) ∧
    (s.held = true → s.input.stop.raw ≠ level →
      Gives (.stopPinChange level) s (s.setStopPin { s.input.stop with raw := level, filtered := level })) ∧
    (s.input.stop.raw = level → Gives (.stopPinChange level) s s)

/-! ### The event unit, the capture unit and the timers -/

/-- OCCURRENCE_ARRIVAL of a source that is MASKED or in REPORT, or of a source 36 to 41: the oldest occurrence of the source latches,
and every other record, ring and unit stays (R5, R6, R11). The model's reading: log 5. -/
def Obligations.ArrivingOccurrenceLatches : Prop :=
  ∀ (s : State) (before after : List OccurrenceInTransit) (x : OccurrenceInTransit), s.held = false →
    s.event.arriving = before ++ x :: after → (∀ y ∈ before, y.occurrence.source ≠ x.occurrence.source) →
    (s.source x.occurrence.source).mask = .masked ∨ (s.source x.occurrence.source).mode = .report ∨
      36 ≤ x.occurrence.source.val →
    Gives (.occurrenceArrival x.occurrence.source.val) s
      ({ s with event := { s.event with arriving := before ++ after } }.setSource x.occurrence.source
        { s.source x.occurrence.source with
          account := some
            (match (s.source x.occurrence.source).account with
            | none =>
              { count := 1, cause := .occurrence, first := x.occurrence.timeAt s.timer.timeBase, last := none }
            | some a =>
              { count := if a.count < 255 then a.count + 1 else 255, cause := a.cause, first := a.first,
                last := some (x.occurrence.timeAt s.timer.timeBase) }) })

/-- OCCURRENCE_ARRIVAL of a source that is UNMASKED and in CAPTURE, with a ring that has room: a record with the ring's counter as its
number joins the ring, the counter advances, and one unit of budget is spent; the last unit takes the source out of capture with cause
BUDGET_END; a crossing of the watermark sends the ring source's occurrence (R8, R9, R72, R75, R76, R79, R83). With the ring full no
record is written, and the source leaves capture with cause RING_FULL and budget 0, the occurrence latched (R9, R81). The model's
reading: log 5. -/
def Obligations.CaptureClaimAppendsOrEscalates : Prop :=
  ∀ (s : State) (before after : List OccurrenceInTransit) (x : OccurrenceInTransit) (c : Claim), s.held = false →
    s.event.arriving = before ++ x :: after → (∀ y ∈ before, y.occurrence.source ≠ x.occurrence.source) →
    x.occurrence.claim? = some c → (s.source x.occurrence.source).mask = .unmasked →
    (s.source x.occurrence.source).mode = .capture →
    (1 ≤ (s.source x.occurrence.source).budget → (s.ring (s.source x.occurrence.source).ring).records.length < 64 →
      ∃ t, Gives (.occurrenceArrival x.occurrence.source.val) s t ∧
        t.ring (s.source x.occurrence.source).ring =
          { s.ring (s.source x.occurrence.source).ring with
            records := (s.ring (s.source x.occurrence.source).ring).records ++
              [{ sequence := (s.ring (s.source x.occurrence.source).ring).counter, source := x.occurrence.source,
                 kind := c.kind, time := c.time,
                 snapshot := if (s.ring (s.source x.occurrence.source).ring).snapshot = true then
                   some (c.levels.getD s.input.filteredLevels) else none }]
            counter := (s.ring (s.source x.occurrence.source).ring).counter + 1 } ∧
        (∀ r, r ≠ (s.source x.occurrence.source).ring → t.ring r = s.ring r) ∧
        (2 ≤ (s.source x.occurrence.source).budget →
          t.source x.occurrence.source =
            { s.source x.occurrence.source with budget := (s.source x.occurrence.source).budget - 1 }) ∧
        ((s.source x.occurrence.source).budget = 1 →
          t.source x.occurrence.source =
            { s.source x.occurrence.source with
              mode := .report, budget := 0
              account := some
                { latchAccount c.time (s.source x.occurrence.source).account with cause := .budgetEnd } }) ∧
        (∀ n, n ≠ x.occurrence.source → t.source n = s.source n) ∧
        t.event.arriving =
          (before ++ after) ++
            (if (s.ring (s.source x.occurrence.source).ring).watermark ≠ 0 ∧
                (s.ring (s.source x.occurrence.source).ring).records.length + 1 =
                  (s.ring (s.source x.occurrence.source).ring).watermark then
              [{ occurrence := .crossing (s.source x.occurrence.source).ring s.timer.timeBase, age := 0 }]
            else []) ∧
        t.input = s.input ∧ t.timer = s.timer ∧ t.delivery = s.delivery ∧ t.protection = s.protection ∧
        t.output = s.output ∧ t.link = s.link ∧ t.command = s.command) ∧
    ((s.ring (s.source x.occurrence.source).ring).records.length = 64 →
      Gives (.occurrenceArrival x.occurrence.source.val) s
        ({ s with event := { s.event with arriving := before ++ after } }.setSource x.occurrence.source
          { s.source x.occurrence.source with
            mode := .report, budget := 0
            account := some
              { latchAccount c.time (s.source x.occurrence.source).account with cause := .ringFull } }))

/-- TRIGGER_ARRIVAL: every ON_TRIGGER timer on the channel runs its full period from the acceptance, every other timer and all else
stays (R117, R102). The model's reading: log 5. -/
def Obligations.TriggerStartsItsTimers : Prop :=
  ∀ (s : State) (before after : List TriggerInTransit) (x : TriggerInTransit), s.held = false →
    s.timer.arriving = before ++ x :: after → (∀ y ∈ before, y.channel ≠ x.channel) →
    ∃ t, Gives (.triggerArrival x.channel.val) s t ∧ t.timer.arriving = before ++ after ∧
      (∀ n, (s.intervalTimer n).mode = .onTrigger ∧ (s.intervalTimer n).trigger = some x.channel →
        t.intervalTimer n =
          { s.intervalTimer n with phase := .running, remaining := (s.intervalTimer n).period * 100 - x.age }) ∧
      (∀ n, ¬ ((s.intervalTimer n).mode = .onTrigger ∧ (s.intervalTimer n).trigger = some x.channel) →
        t.intervalTimer n = s.intervalTimer n) ∧
      t.timer.timeBase = s.timer.timeBase ∧ t.input = s.input ∧ t.event = s.event ∧ t.capture = s.capture ∧
      t.delivery = s.delivery ∧ t.protection = s.protection ∧ t.output = s.output ∧ t.link = s.link ∧
      t.command = s.command

/-- TIMER_EXPIRY: at remaining 0 the EXPIRY occurrence is sent with the time base, and the timer changes by its mode; with time left
nothing happens (R115, R116). SILENCE_EXPIRY: the outputs are held with cause SILENCE, the occurrence of source 41 is sent, and the timer
is STOPPED (R62). The model's reading: the occurrences travel by log 5, and an event before its time is no step by log 3. -/
def Obligations.TimerAndSilenceExpiriesSendTheirOccurrences : Prop :=
  (∀ (s : State) (n : Fin 4), s.held = false → (s.intervalTimer n).phase = .running →
    ((s.intervalTimer n).remaining = 0 → (s.intervalTimer n).mode ≠ .off →
      Gives (.timerExpiry n.val) s
        { s with
          timer := { s.timer with
            timers := s.timer.timers.set n
              (match (s.intervalTimer n).mode with
              | .off | .once => { s.intervalTimer n with mode := .off, phase := .stopped, remaining := 0 }
              | .repeating =>
                { s.intervalTimer n with phase := .running, remaining := (s.intervalTimer n).period * 100 }
              | .onTrigger => { s.intervalTimer n with phase := .waiting, remaining := 0 }) }
          event := { s.event with
            arriving := s.event.arriving ++ [{ occurrence := .expiry n s.timer.timeBase, age := 0 }] } }) ∧
    ((s.intervalTimer n).remaining ≠ 0 → Gives (.timerExpiry n.val) s s)) ∧
  ∀ s : State, s.held = false → s.protection.silenceTimer = some 0 →
    Gives .silenceExpiry s
      { s with
        protection := { s.protection with silenceTimer := none }
        output := { s.output with causes := { s.output.causes with silence := true }, mode := .safeHeld }
        event := { s.event with arriving := s.event.arriving ++ [{ occurrence := .silence, age := 0 }] } }

/-! ### Delivery -/

/-- MAKE_OFFER: with the slot free, the source chosen by R27, R28 and R31 is offered in one step: a new innermost OFFERED entry with the
source's account, the account emptied, the gate saved and CLOSED, the EVENT notice placed with the depth, the notice counter moved to the
next number, modulo 256, that no entry holds (R33, R16, R34, R35). With the slot taken, delivery SUSPENDED, the window open, or no candidate, no offer is made (R27, R41, R43; that nothing then changes is log 3). -/
def Obligations.MakeOfferOffersTheChosenSource : Prop :=
  (∀ (s : State) (n : Fin 42) (a : Account), SlotFree s → IsChosen s n → (s.source n).account = some a →
    ∃ t, Gives .makeOffer s t ∧
      t.delivery.stack =
        { source := n, level := (s.source n).level, phase := .offered, notice := s.delivery.noticeCounter,
          savedGate := s.delivery.gate, attempts := 1, account := a } :: s.delivery.stack ∧
      t.delivery = { s.delivery with
        stack := t.delivery.stack, gate := .closed, noticeCounter := t.delivery.noticeCounter } ∧
      t.source n = { s.source n with account := none } ∧ (∀ m, m ≠ n → t.source m = s.source m) ∧
      t.event.arriving = s.event.arriving ∧
      t.link = { s.link with
        noticeSlot := some
          { notice := s.delivery.noticeCounter, attempt := 1, source := n, level := (s.source n).level, account := a,
            depth := s.delivery.stack.length + 1 } } ∧
      t.input = s.input ∧ t.timer = s.timer ∧ t.capture = s.capture ∧ t.protection = s.protection ∧
      t.output = s.output ∧ t.command = s.command ∧
      (s.delivery.stack.length ≤ 8 →
        ∃ k : Nat, 1 ≤ k ∧ k ≤ 10 ∧ t.delivery.noticeCounter = s.delivery.noticeCounter + BitVec.ofNat 8 k ∧
          t.delivery.noticeCounter ∉ t.delivery.stack.map Entry.notice ∧
          ∀ j : Nat, 1 ≤ j → j < k →
            s.delivery.noticeCounter + BitVec.ofNat 8 j ∈ t.delivery.stack.map Entry.notice)) ∧
  ∀ s : State,
    (s.delivery.mode = .suspended ∨ s.command.window = true ∨ (∃ e ∈ s.delivery.stack, e.phase = .offered) ∨
      (¬ StopCandidate s ∧ ¬ SilenceCandidate s ∧ ∀ n, ¬ MaskableCandidate s n)) →
    Gives .makeOffer s s

/-- TAKE_TIMER_EXPIRY: below the retry limit plus 1 the offer is resent with one more attempt and the same content (R38, R35); at it or
beyond, the entry is withdrawn, the gate restored, delivery SUSPENDED, and the entry's account merged with the source's by R40's table,
all else of the record untouched (R39, R40). -/
def Obligations.TakeTimerExpiryResendsOrWithdraws : Prop :=
  ∀ (s : State) (e : Entry) (rest : List Entry), s.held = false → s.command.window = false →
    s.delivery.takeTimer = some 0 → s.delivery.stack = e :: rest → e.phase = .offered →
    (e.attempts < s.delivery.retryLimit + 1 →
      Gives .takeTimerExpiry s
        { s with
          delivery := { s.delivery with stack := { e with attempts := e.attempts + 1 } :: rest, takeTimer := none }
          link := { s.link with
            noticeSlot := some
              { notice := e.notice, attempt := e.attempts + 1, source := e.source, level := e.level,
                account := e.account, depth := rest.length + 1 } } }) ∧
    (s.delivery.retryLimit + 1 ≤ e.attempts →
      Gives .takeTimerExpiry s
        ({ s with
            delivery := { s.delivery with
              stack := rest, gate := e.savedGate, takeTimer := none, mode := .suspended } }.setSource e.source
          { s.source e.source with
            account := some
              (match (s.source e.source).account with
              | none => e.account
              | some a =>
                { count := if e.account.count + a.count ≤ 255 then e.account.count + a.count else 255
                  first := e.account.first
                  last := some (match a.last with | some time => time | none => a.first)
                  cause := if e.account.cause = Cause.occurrence then a.cause else e.account.cause }) }))

/-- TAKE: FIRST for the innermost OFFERED entry with the number, AGAIN for a TAKEN one, STALE when no entry holds it (R44). -/
def Obligations.TakeAnswersFirstAgainOrStale : Prop :=
  ∀ (s : State) (sequence notice : Byte), Stands s 0x09 sequence [notice] →
    (∀ e rest, s.delivery.stack = e :: rest → e.phase = .offered → e.notice = notice →
      Replies .take s
        { s with
          delivery := { s.delivery with stack := { e with phase := .taken } :: rest, takeTimer := none }
          link := { s.link with
            noticeSlot := s.link.noticeSlot.filter fun x => decide (x.notice ≠ notice) } }
        0x09 sequence [notice, 1, byteOf e.source.val, byteOf (rest.length + 1)]) ∧
    (∀ e ∈ s.delivery.stack, e.notice = notice → e.phase = .taken → (s.delivery.stack.map Entry.notice).Nodup →
      Replies .take s s 0x09 sequence [notice, 2, byteOf e.source.val, byteOf s.delivery.stack.length]) ∧
    ((∀ e ∈ s.delivery.stack, e.notice ≠ notice) → Refuses .take s 0x09 sequence 0x09 notice)

/-- DONE: the innermost entry of the named source is removed and the gate restored, an OFFERED one's timer stopped and waiting notice
cancelled; NOT_INNERMOST, NOT_IN_SERVICE and BAD_FIELD otherwise (R46, R47, R48). -/
def Obligations.DoneRemovesTheInnermostEntry : Prop :=
  ∀ (s : State) (sequence source : Byte), Stands s 0x0A sequence [source] →
    (∀ e rest, s.delivery.stack = e :: rest → e.source.val = source.toNat →
      (e.phase = .taken →
        Replies .done s { s with delivery := { s.delivery with stack := rest, gate := e.savedGate } } 0x0A sequence
          [source, e.savedGate.code, byteOf rest.length]) ∧
      (e.phase = .offered →
        Replies .done s
          { s with
            delivery := { s.delivery with stack := rest, gate := e.savedGate, takeTimer := none }
            link := { s.link with
              noticeSlot := s.link.noticeSlot.filter fun x => decide (x.notice ≠ e.notice) } }
          0x0A sequence [source, e.savedGate.code, byteOf rest.length])) ∧
    (∀ e rest, s.delivery.stack = e :: rest → e.source.val ≠ source.toNat → (∃ x ∈ rest, x.source.val = source.toNat) →
      Refuses .done s 0x0A sequence 0x07 source) ∧
    (source.toNat ≤ 41 → (∀ e ∈ s.delivery.stack, e.source.val ≠ source.toNat) →
      Refuses .done s 0x0A sequence 0x08 source) ∧
    (41 < source.toNat → Refuses .done s 0x0A sequence 0x04 0)

/-- GATE: the gate takes the requested value, unless an entry is OFFERED (R49). -/
def Obligations.GateTakesTheRequestedValue : Prop :=
  ∀ (s : State) (sequence value : Byte), Stands s 0x08 sequence [value] →
    (1 < value.toNat → Refuses .gate s 0x08 sequence 0x04 0) ∧
    (∀ e ∈ s.delivery.stack, e.phase = .offered → (∀ x ∈ s.delivery.stack, x.phase = .offered → x = e) →
      value.toNat ≤ 1 → Refuses .gate s 0x08 sequence 0x06 (byteOf e.source.val)) ∧
    ((∀ e ∈ s.delivery.stack, e.phase = .taken) → value.toNat ≤ 1 →
      Replies .gate s
        { s with delivery := { s.delivery with gate := if value = 1 then .opened else .closed } }
        0x08 sequence [value, byteOf s.delivery.stack.length])

/-- SET DELIVERY: the first field out of range refuses; else the three settings are written, and nothing else (R50). -/
def Obligations.SetDeliveryWritesTheSettings : Prop :=
  ∀ (s : State) (sequence timeout retry reentry : Byte), Stands s 0x06 sequence [timeout, retry, reentry] →
    (timeout = 0 → Refuses .setDelivery s 0x06 sequence 0x04 0) ∧
    (timeout ≠ 0 → 7 < retry.toNat → Refuses .setDelivery s 0x06 sequence 0x04 1) ∧
    (timeout ≠ 0 → retry.toNat ≤ 7 → 1 < reentry.toNat → Refuses .setDelivery s 0x06 sequence 0x04 2) ∧
    (timeout ≠ 0 → retry.toNat ≤ 7 → reentry.toNat ≤ 1 →
      Replies .setDelivery s
        { s with
          delivery := { s.delivery with
            takeTimeout := timeout.toNat, retryLimit := retry.toNat, reentry := reentry == 1 } }
        0x06 sequence [timeout, retry, reentry])

/-- READ STACK changes nothing and reports the gate, the delivery state, the settings, the counter, the number of entries and each entry,
outermost first (R51). -/
def Obligations.ReadStackReportsTheDeliveryUnit : Prop :=
  ∀ (s : State) (sequence : Byte), Stands s 0x07 sequence [] →
    Replies .readStack s s 0x07 sequence
      ([s.delivery.gate.code, s.delivery.mode.code, byteOf s.delivery.takeTimeout, byteOf s.delivery.retryLimit,
        (if s.delivery.reentry = true then 1 else 0), s.delivery.noticeCounter, byteOf s.delivery.stack.length] ++
        (s.delivery.stack.reverse.map fun e =>
          [byteOf e.source.val, e.level.code, (match e.phase with | .offered => 1 | .taken => 2), e.notice,
            e.savedGate.code, byteOf e.attempts]).flatten)

/-! ### The link -/

/-- START_BIT, BREAK_LIMIT, BREAK_END and GAP_LIMIT at the receiver: a start bit begins a character when the receiver is idle; two
character times of low line are a break, which discards a frame being assembled with BREAK; the line's return to high ends the wait; 20
character times without a start bit discard the frame with GAP (R134, R135, R139, R141, R142). The model's reading: log 10, log 11, log
26. -/
def Obligations.LineStepsOfTheReceiver : Prop :=
  ∀ s : State, s.held = false →
    (s.link.line = .idle → Gives .startBit s { s with link := { s.link with line := .inCharacter 0, gap := 0 } }) ∧
    (s.link.line = .waitingHigh → Gives .breakEnd s { s with link := { s.link with line := .idle } }) ∧
    (∀ elapsed, s.link.line = .inCharacter elapsed → 2 * characterUnits s.link.rate ≤ elapsed →
      (s.link.frame = .hunting → Gives .breakLimit s { s with link := { s.link with line := .waitingHigh } }) ∧
      (s.link.frame = .assembling →
        Gives .breakLimit s
          { s with
            link := { s.link with
              line := .waitingHigh, frame := .hunting, buffer := []
              notes := { s.link.notes with breakLine := true } } })) ∧
    (s.link.frame = .assembling → s.link.line = .idle → 20 * characterUnits s.link.rate ≤ s.link.gap →
      Gives .gapLimit s
        { s with link := { s.link with frame := .hunting, buffer := [], notes := { s.link.notes with gap := true } } })

/-- CHARACTER_RECEIVED: while HUNTING a clean A6h begins a frame, and all else is ignored (R139). While ASSEMBLING a character with a
condition discards the frame, with PARITY, FRAMING or both noted; a length byte above 80 discards it with LENGTH; a complete frame whose
CRC does not match is discarded with CRC; a character short of the frame's end joins the buffer (R140, R142). The model's reading: log
11. -/
def Obligations.CharactersAreTakenIgnoredOrDiscardTheFrame : Prop :=
  ∀ (s : State) (data : Byte) (parity stop : Bool) (elapsed : Nat), s.held = false →
    s.link.line = .inCharacter elapsed →
    (s.link.frame = .hunting → parity = oddOnes data → stop = true → data = 0xA6 →
      Gives (.characterReceived data parity stop) s
        { s with link := { s.link with line := .idle, gap := 0, frame := .assembling, buffer := [0xA6] } }) ∧
    (s.link.frame = .hunting → parity ≠ oddOnes data ∨ stop = false ∨ data ≠ 0xA6 →
      Gives (.characterReceived data parity stop) s { s with link := { s.link with line := .idle, gap := 0 } }) ∧
    (s.link.frame = .assembling → parity ≠ oddOnes data ∨ stop = false →
      Gives (.characterReceived data parity stop) s
        { huntingAgain s with
          link := { (huntingAgain s).link with
            notes := { s.link.notes with
              parity := s.link.notes.parity || decide (parity ≠ oddOnes data)
              framing := s.link.notes.framing || !stop } } }) ∧
    (s.link.frame = .assembling → parity = oddOnes data → stop = true → s.link.buffer.length = 1 → 80 < data.toNat →
      Gives (.characterReceived data parity stop) s
        { huntingAgain s with
          link := { (huntingAgain s).link with notes := { s.link.notes with length := true } } }) ∧
    (∀ lead length kind sequence payload high, s.link.frame = .assembling → parity = oddOnes data → stop = true →
      s.link.buffer = [lead, length, kind, sequence] ++ payload ++ [high] → payload.length = length.toNat →
      [high, data] ≠ bytes16 (crcOf ([length, kind, sequence] ++ payload)) →
      Gives (.characterReceived data parity stop) s
        { huntingAgain s with
          link := { (huntingAgain s).link with notes := { s.link.notes with crc := true } } }) ∧
    (s.link.frame = .assembling → parity = oddOnes data → stop = true →
      (s.link.buffer.length = 1 → data.toNat ≤ 80) →
      (∀ length ∈ s.link.buffer[1]?, s.link.buffer.length + 1 ≠ length.toNat + 6) →
      Gives (.characterReceived data parity stop) s
        { s with link := { s.link with line := .idle, gap := 0, buffer := s.link.buffer ++ [data] } })

/-- CHARACTER_RECEIVED that completes a frame whose CRC matches: the valid-frame signal goes to the protection and delivery units, and
the frame is disposed of: discarded in the restart window, placed in an empty intake slot, or lost with OVERRUN (R143, R144, R61, R42;
R160 for a waiting duplicate). The model's reading: log 13. -/
def Obligations.ValidFrameSignalsAndIsDisposedOf : Prop :=
  ∀ (s : State) (elapsed : Nat) (lead length kind sequence high low : Byte) (payload : List Byte), s.held = false →
    s.link.line = .inCharacter elapsed → s.link.frame = .assembling →
    s.link.buffer = [lead, length, kind, sequence] ++ payload ++ [high] → payload.length = length.toNat →
    [high, low] = bytes16 (crcOf ([length, kind, sequence] ++ payload)) →
    Gives (.characterReceived low (oddOnes low) true) s
      (disposed (signalled (huntingAgain s)) { kind := kind, sequence := sequence, payload := payload })

/-- ARBITER_CHOICE with the transmitter free: the START notice, then the oldest answer, then the EVENT notice; the frame leaves its
place when its transmission starts (R148, R149). -/
def Obligations.ArbiterServesStartThenRepliesThenEvents : Prop :=
  ∀ s : State, s.held = false → s.link.sending = none →
    (∀ n, s.command.startNotice = some n →
      Gives .arbiterChoice s
        { s with
          command := { s.command with startNotice := none }
          link := { s.link with sending := some { frame := .start n, elapsed := 0 } } }) ∧
    (∀ f rest, s.command.startNotice = none → s.command.replyQueue = f :: rest →
      Gives .arbiterChoice s
        { s with
          command := { s.command with replyQueue := rest }
          link := { s.link with sending := some { frame := .answer f, elapsed := 0 } } }) ∧
    (∀ e, s.command.startNotice = none → s.command.replyQueue = [] → s.link.noticeSlot = some e →
      Gives .arbiterChoice s
        { s with link := { s.link with noticeSlot := none, sending := some { frame := .event e, elapsed := 0 } } })

/-- What the frames the part sends carry: the lead byte, the length, the kind code, the sequence, the payload and the CRC (R136, R137, with
the frame of 8.2.1); for a REPLY the kind answered, the notes set and the data, for a REFUSED the kind, the code, the detail and the
notes set (R171); for an EVENT and a START notice their items (R172), the sequence being that of the request, the notice number, or 0
(R150); and how the two sets and a capture record are coded (R169, R172). -/
def Obligations.FramesAndRecordsCarryTheirFields : Prop :=
  (∀ f : OutFrame, f.bytes =
    [0xA6, byteOf f.payload.length, f.kind, f.sequence] ++ f.payload ++
      bytes16 (crcOf ([byteOf f.payload.length, f.kind, f.sequence] ++ f.payload))) ∧
  frameBytes 0x01 0x01 [] = [0xA6, 0x00, 0x01, 0x01, 0xEF, 0x8C] ∧
  (∀ (sequence kind : Byte) (data : List Byte) (notes : Notes),
    let f := OutFrame.answer { sequence := sequence, answer := .reply kind data, notes := notes }
    f.kind = 0x80 ∧ f.sequence = sequence ∧ f.payload = [kind, notes.code] ++ data) ∧
  (∀ (sequence kind code detail : Byte) (notes : Notes),
    let f := OutFrame.answer { sequence := sequence, answer := .refused kind code detail, notes := notes }
    f.kind = 0x81 ∧ f.sequence = sequence ∧ f.payload = [kind, code, detail, notes.code]) ∧
  (∀ e : EventNotice,
    (OutFrame.event e).kind = 0x82 ∧ (OutFrame.event e).sequence = e.notice ∧
    (OutFrame.event e).payload =
      [e.notice, byteOf e.attempt, byteOf e.source.val,
        (match e.level with | .level0 => 0 | .level1 => 1 | .level2 => 2 | .level3 => 3 | .urgent => 4),
        (match e.account.cause with | .occurrence => 0 | .budgetEnd => 1 | .ringFull => 2), byteOf e.account.count] ++
        bytes32 e.account.first ++ (match e.account.last with | none => [] | some time => bytes32 time) ++
        [byteOf e.depth]) ∧
  (∀ n : StartNotice,
    (OutFrame.start n).kind = 0x83 ∧ (OutFrame.start n).sequence = 0 ∧
    (OutFrame.start n).payload =
      [(match n.cause with | .power => 1 | .restart => 2), 2,
        (match n.outputState with | .live => 0 | .safeHeld => 1), n.causes.code, if n.stopActive = true then 1 else 0]) ∧
  (∀ notes : Notes, (List.range 8).map (fun i => notes.code.getLsbD i) =
    [notes.parity, notes.framing, notes.breakLine, notes.gap, notes.length, notes.crc, notes.overrun, notes.resumed]) ∧
  (∀ causes : HoldCauses, (List.range 8).map (fun i => causes.code.getLsbD i) =
    [causes.start, causes.stop, causes.silence, causes.host, false, false, false, false]) ∧
  (∀ w : BitVec 32, ∃ b3 b2 b1 b0 : Byte, bytes32 w = [b3, b2, b1, b0] ∧ w = b3 ++ b2 ++ b1 ++ b0) ∧
  (∀ w : BitVec 16, ∃ high low : Byte, bytes16 w = [high, low] ∧ w = high ++ low) ∧
  (∀ r : CaptureRecord, r.bytes =
    bytes16 r.sequence ++
      [if r.snapshot = none then (match r.kind with | .rise => 0x00 | .fall => 0x01 | .expiry => 0x02)
          else (match r.kind with | .rise => 0x80 | .fall => 0x81 | .expiry => 0x82),
        byteOf r.source.val] ++
      bytes32 r.time ++ (match r.snapshot with | none => [] | some levels => bytes32 levels))

/-- TXD is high while the transmitter is free, and while a frame is sent it shows the frame's characters one after another with no idle
time between them, each character's 11 bits for one bit time each, and high once the frame has been sent whole; the bit times are those
of the four rates (R133, R148). The model's reading: log 10. -/
def Obligations.TxdSendsTheFrameBitByBit : Prop :=
  (∀ s : State, s.link.sending = none → s.txd = true) ∧
  (∀ (s : State) (x : Sending), s.link.sending = some x →
    (∀ (k j : Nat) (b : Byte), x.frame.bytes[k]? = some b → j < 11 →
      (11 * k + j) * bitUnits s.link.rate ≤ x.elapsed → x.elapsed < (11 * k + j + 1) * bitUnits s.link.rate →
      s.txd = characterBit b j) ∧
    ((x.frame.payload.length + 6) * characterUnits s.link.rate ≤ x.elapsed → s.txd = true)) ∧
  (bitUnits 0 * 38400 = 288 * 1000000 ∧ bitUnits 1 * 115200 = 288 * 1000000 ∧ bitUnits 2 * 230400 = 288 * 1000000 ∧
    bitUnits 3 * 460800 = 288 * 1000000)

/-- FRAME_END of a frame that has had its whole time on the line, the REPLY to RESTART apart: the transmitter is free, and after an EVENT
the take timer starts with the take timeout in force, if the notice's entry is still OFFERED and the window is closed (R37, R148; that
no notice waits is the model's reading of R36, log 23). -/
def Obligations.EventEndStartsTheTakeTimer : Prop :=
  ∀ (s : State) (x : Sending), s.held = false → s.link.sending = some x →
    (x.frame.payload.length + 6) * characterUnits s.link.rate ≤ x.elapsed →
    (∀ n, x.frame = .event n →
      (∀ e rest, s.delivery.stack = e :: rest → e.phase = .offered → e.notice = n.notice → s.command.window = false →
        s.link.noticeSlot = none →
        Gives .frameEnd s
          { s with
            link := { s.link with sending := none }
            delivery := { s.delivery with takeTimer := some (s.delivery.takeTimeout * 4000) } }) ∧
      ((∀ e ∈ s.delivery.stack, ¬ (e.phase = .offered ∧ e.notice = n.notice)) ∨ s.command.window = true ∨
          s.link.noticeSlot ≠ none →
        Gives .frameEnd s { s with link := { s.link with sending := none } })) ∧
    (∀ f, x.frame = .answer f → (∀ data, f.answer ≠ .reply 0x1A data) →
      Gives .frameEnd s { s with link := { s.link with sending := none } }) ∧
    (∀ n, x.frame = .start n → Gives .frameEnd s { s with link := { s.link with sending := none } })

/-- FRAME_END of the REPLY to RESTART: the restart takes place. The event-handling units take their restart values; the time base, the
STOP state, the silence timeout, the outputs, the line rate and the receiver are kept; the window closes and the START notice is raised
with cause RESTART (R167; R3, R52, R60, R69, R74, R96, R109, R114, R124, R138, R147). The model's reading: log 18. -/
def Obligations.RestartTakesPlaceAtTheEndOfItsReply : Prop :=
  ∀ (s : State) (x : Sending) (f : AnswerFrame) (data : List Byte), s.held = false → s.link.sending = some x →
    x.frame = .answer f → f.answer = .reply 0x1A data →
    (x.frame.payload.length + 6) * characterUnits s.link.rate ≤ x.elapsed →
    ∃ t, Gives .frameEnd s t ∧
      t.event = State.reset.event ∧ t.delivery = State.reset.delivery ∧ t.capture = State.reset.capture ∧
      t.timer = { State.reset.timer with timeBase := s.timer.timeBase } ∧
      (∀ n, t.channel n =
        { raw := (s.channel n).raw, filtered := (s.channel n).raw, edge := .none, code := 0, qualifying := none }) ∧
      t.input.stop = s.input.stop ∧
      t.protection = { s.protection with
        silenceTimer := if s.protection.silenceTimeout = 0 then none else some (s.protection.silenceTimeout * 10000) } ∧
      t.output = s.output ∧
      t.link = { s.link with sending := none, notes := Notes.empty, noticeSlot := none } ∧
      t.command =
        { replyQueue := [], replyLog := [], window := false, lastReset := .restart
          startNotice := some
            { cause := .restart, outputState := s.output.mode, causes := s.output.causes,
              stopActive := s.protection.stopActive } } ∧
      t.held = false ∧ t.pending = s.pending

/-! ### Requests and replies -/

/-- REPLAY: a duplicate of a logged request is discarded while its answer waits in the queue, and else the logged answer is queued again
with the notes set of the moment, with no execution and no change of the log (R160). -/
def Obligations.DuplicatesAreDiscardedOrReplayed : Prop :=
  ∀ (s : State) (r : Request) (e : LogEntry), s.held = false → s.command.window = false → s.link.intake = some r →
    e ∈ s.command.replyLog → e.sequence = r.sequence → (s.command.replyLog.map LogEntry.sequence).Nodup →
    ((∃ f ∈ s.command.replyQueue, f.sequence = r.sequence) →
      Gives .replay s { s with link := { s.link with intake := none } }) ∧
    ((∀ f ∈ s.command.replyQueue, f.sequence ≠ r.sequence) → s.command.replyQueue.length < 4 →
      Gives .replay s
        { s with
          link := { s.link with intake := none, notes := Notes.empty }
          command := { s.command with
            replyQueue := s.command.replyQueue ++
              [{ sequence := r.sequence, answer := e.answer, notes := s.link.notes }] } })

/-- BAD_KIND refuses every kind byte that is no host-to-part code, before the payload is looked at; and each request's row refuses a
payload whose length is none of its kind's, and no other (R154). -/
def Obligations.KindAndLengthAreCheckedFirst : Prop :=
  (∀ (s : State) (kind sequence : Byte) (payload : List Byte), Stands s kind sequence payload →
    kind = 0 ∨ 0x1B ≤ kind.toNat → Refuses .badKind s kind sequence 0x01 0) ∧
  (∀ c kind lengths, (c, kind, lengths) ∈ requestTable →
    ∀ (s : State) (sequence : Byte) (payload : List Byte), Stands s kind sequence payload →
      (payload.length ∉ lengths → Refuses c s kind sequence 0x02 (byteOf payload.length)) ∧
      (payload.length ∈ lengths → ∀ detail, ¬ Refuses c s kind sequence 0x02 detail ∧ ¬ Refuses c s kind sequence 0x01 detail))

/-- A guarded request of the right length whose first payload byte is not 255 minus its sequence number is refused with GUARD and the
byte received, whatever its other fields hold; one of a wrong length is refused with BAD_LENGTH; and none whose guard byte is right is
refused with GUARD (R155). -/
def Obligations.TheGuardIsCheckedBeforeTheFields : Prop :=
  ∀ c kind length, (c, kind, length) ∈ guardedTable →
    ∀ (s : State) (sequence guard : Byte) (fields : List Byte),
      (Stands s kind sequence (guard :: fields) → fields.length + 1 = length → guard.toNat ≠ 255 - sequence.toNat →
        Refuses c s kind sequence 0x03 guard) ∧
      (∀ payload, Stands s kind sequence payload → payload.length ≠ length →
        Refuses c s kind sequence 0x02 (byteOf payload.length)) ∧
      (Stands s kind sequence (guard :: fields) → fields.length + 1 = length → guard.toNat = 255 - sequence.toNat →
        ¬ Refuses c s kind sequence 0x03 guard ∧ ∃ t a, Gives c s (answered t sequence a))

/-- PING changes nothing and reports the nine items of R162. -/
def Obligations.PingReportsThePart : Prop :=
  ∀ (s : State) (sequence : Byte), Stands s 0x01 sequence [] →
    Replies .ping s s 0x01 sequence
      [2, (match s.command.lastReset with | .power => 1 | .restart => 2), s.delivery.mode.code, s.delivery.gate.code,
        byteOf s.delivery.stack.length, (if ∃ e ∈ s.delivery.stack, e.phase = .offered then 1 else 0),
        byteOf ((List.finRange 42).filter fun n =>
          decide ((s.source n).account ≠ none ∧ ((s.source n).mask = .unmasked ∨ 40 ≤ n.val))).length,
        s.output.mode.code, s.output.causes.code]

/-- SET SOURCE: the first failing check of R17 refuses; else mask, level, mode, ring and budget are written as R18 says, the pending
account, every other record and every stack entry untouched, and the REPLY carries the settings. -/
def Obligations.SetSourceChecksAndWrites : Prop :=
  ∀ (s : State) (sequence source mask level mode ring budget : Byte),
    Stands s 0x02 sequence [source, mask, level, mode, ring, budget] →
    (∀ code detail, setSourceRefusal source mask level mode ring budget = some (code, detail) →
      Refuses .setSource s 0x02 sequence code detail) ∧
    (setSourceRefusal source mask level mode ring budget = none →
      ∃ (n : Fin 42) (record : SourceRecord), n.val = source.toNat ∧ record.mask.code = mask ∧
        record.level.code = level ∧ record.mode.code = mode ∧ record.ring.val = ring.toNat ∧
        record.budget = (if mode = 1 then budget.toNat else 0) ∧ record.account = (s.source n).account ∧
        Replies .setSource s (s.setSource n record) 0x02 sequence
          [source, mask, level, mode, ring, if mode = 1 then budget else 0])

/-- GET SOURCE changes nothing and reports the record and the service phase; the cause and the times only when they are present (R19). -/
def Obligations.GetSourceReportsTheRecord : Prop :=
  ∀ (s : State) (sequence source : Byte), Stands s 0x03 sequence [source] →
    (41 < source.toNat → Refuses .getSource s 0x03 sequence 0x04 0) ∧
    (∀ n : Fin 42, n.val = source.toNat →
      Replies .getSource s s 0x03 sequence
        ([source, (s.source n).mask.code, (s.source n).level.code, (s.source n).mode.code, byteOf (s.source n).ring.val,
          byteOf (s.source n).budget] ++
          (match (s.source n).account with | none => [0, 0] | some a => [1, byteOf a.count]) ++
          [match s.delivery.stack.find? (fun e => decide (e.source = n)) with
            | none => 0
            | some e => if e.phase = .offered then 1 else 2] ++
          (match (s.source n).account with
            | none => []
            | some a =>
              a.cause.code :: bytes32 a.first ++ (match a.last with | none => [] | some time => bytes32 time))))

/-- MASK LIST: an empty list, or one of more than 40 numbers, refuses with BAD_LENGTH; a number above 41 refuses with
BAD_FIELD and the first such number, 40 or 41 with MODE_CONFLICT and the first of them; else the mask of every listed source is set in one step, no other record or field changes, and the REPLY counts the distinct sources
(R20, R21). -/
def Obligations.MaskListSetsTheListedMasks : Prop :=
  ∀ (s : State) (sequence mask : Byte) (list : List Byte), Stands s 0x04 sequence (mask :: list) →
    (list = [] ∨ 40 < list.length → Refuses .maskList s 0x04 sequence 0x02 (byteOf (list.length + 1))) ∧
    (list ≠ [] → list.length ≤ 40 →
      (1 < mask.toNat → Refuses .maskList s 0x04 sequence 0x04 0) ∧
      (∀ before b after, mask.toNat ≤ 1 → list = before ++ b :: after → (∀ x ∈ before, x.toNat ≤ 41) → 41 < b.toNat →
        Refuses .maskList s 0x04 sequence 0x04 b) ∧
      (∀ before b after, mask.toNat ≤ 1 → list = before ++ b :: after → (∀ x ∈ list, x.toNat ≤ 41) →
        (∀ x ∈ before, x.toNat < 40) → 40 ≤ b.toNat → Refuses .maskList s 0x04 sequence 0x05 b) ∧
      (mask.toNat ≤ 1 → (∀ x ∈ list, x.toNat < 40) →
        ∃ t, Replies .maskList s t 0x04 sequence [mask, byteOf (list.map BitVec.toNat).toFinset.card] ∧
          (∀ n, t.source n =
            if ∃ b ∈ list, b.toNat = n.val then
              { s.source n with mask := if mask = 1 then .unmasked else .masked }
            else s.source n) ∧
          t = { s with event := { s.event with sources := t.event.sources } }))

/-- CLEAR SOURCE: the pending account is discarded, the settings, the stack and every other record stay, and the REPLY gives the repeat
count held before (R22). -/
def Obligations.ClearSourceDiscardsTheAccount : Prop :=
  ∀ (s : State) (sequence source : Byte), Stands s 0x05 sequence [source] →
    (41 < source.toNat → Refuses .clearSource s 0x05 sequence 0x04 0) ∧
    (∀ n : Fin 42, n.val = source.toNat →
      Replies .clearSource s (s.setSource n { s.source n with account := none }) 0x05 sequence
        [source, match (s.source n).account with | none => 0 | some a => byteOf a.count])

/-- SET INPUT refuses a list that is empty or of more than 32 numbers, an edge select above 3, a filter code above 7, and the first
channel number above 31, in that order (R105); else every listed channel takes the edge select and the code, a change of code
restarting a qualification in progress or, to code 0, accepting it, and each acceptance that matches the new edge select is reported
with the levels that include them all; the channels not listed stay (R98, R104, R106). That the
reports travel (log 5), and that several reports of the one step are sent in rising order of channels (log 24), is the model's choice. -/
def Obligations.SetInputConfiguresTheListedChannels : Prop :=
  ∀ (s : State) (sequence edge code : Byte) (list : List Byte), Stands s 0x0B sequence (edge :: code :: list) →
    (list = [] ∨ 32 < list.length → Refuses .setInput s 0x0B sequence 0x02 (byteOf (list.length + 2))) ∧
    (list ≠ [] → list.length ≤ 32 →
      (3 < edge.toNat → Refuses .setInput s 0x0B sequence 0x04 0) ∧
      (edge.toNat ≤ 3 → 7 < code.toNat → Refuses .setInput s 0x0B sequence 0x04 1) ∧
      (∀ before b after, edge.toNat ≤ 3 → code.toNat ≤ 7 → list = before ++ b :: after → (∀ x ∈ before, x.toNat ≤ 31) →
        31 < b.toNat → Refuses .setInput s 0x0B sequence 0x04 b) ∧
      (edge.toNat ≤ 3 → code.toNat ≤ 7 → (∀ x ∈ list, x.toNat ≤ 31) →
        ∃ t, Replies .setInput s t 0x0B sequence [edge, code, byteOf (list.map BitVec.toNat).toFinset.card] ∧
          (∀ n, (¬ ∃ b ∈ list, b.toNat = n.val) → t.channel n = s.channel n) ∧
          (∀ n, (∃ b ∈ list, b.toNat = n.val) →
            (t.channel n).edge.code = edge ∧ (t.channel n).code.val = code.toNat ∧ (t.channel n).raw = (s.channel n).raw ∧
            ((s.channel n).qualifying = none ∨ (s.channel n).code.val = code.toNat →
              (t.channel n).filtered = (s.channel n).filtered ∧ (t.channel n).qualifying = (s.channel n).qualifying) ∧
            ((s.channel n).qualifying ≠ none → (s.channel n).code.val ≠ code.toNat → code ≠ 0 →
              (t.channel n).filtered = (s.channel n).filtered ∧ (t.channel n).qualifying = some 0) ∧
            ((s.channel n).qualifying ≠ none → (s.channel n).code.val ≠ code.toNat → code = 0 →
              (t.channel n).filtered = (s.channel n).raw ∧ (t.channel n).qualifying = none)) ∧
          t.event.arriving = s.event.arriving ++
            ((List.finRange 32).filter fun n => decide (Reported s t edge code list n)).map (fun n =>
              { occurrence := .edge n (t.channel n).filtered s.timer.timeBase t.input.filteredLevels, age := 0 }) ∧
          t.timer.arriving = s.timer.arriving ++
            ((List.finRange 32).filter fun n => decide (Reported s t edge code list n)).map (fun n =>
              { channel := n, age := 0 }) ∧
          t.input.stop = s.input.stop ∧ t.event.sources = s.event.sources ∧ t.timer.timers = s.timer.timers ∧
          t.timer.timeBase = s.timer.timeBase ∧ t.capture = s.capture ∧ t.delivery = s.delivery ∧
          t.protection = s.protection ∧ t.output = s.output ∧ t.link = s.link ∧ t.command = s.command))

/-- READ INPUTS changes nothing and reports the raw and filtered levels of the 32 channels (bit n is channel n), the STOP pin's, and the
STOP active flag (R108). -/
def Obligations.ReadInputsReportsTheLevels : Prop :=
  ∀ (s : State) (sequence : Byte), Stands s 0x0C sequence [] →
    ∃ raw filtered : BitVec 32, (∀ n : Fin 32, raw.getLsbD n.val = (s.channel n).raw) ∧
      (∀ n : Fin 32, filtered.getLsbD n.val = (s.channel n).filtered) ∧
      Replies .readInputs s s 0x0C sequence
        (bytes32 raw ++ bytes32 filtered ++
          [if s.input.stop.raw = true then 1 else 0, if s.input.stop.filtered = true then 1 else 0,
            if s.protection.stopActive = true then 1 else 0])

/-- SET TIMER: the first failing check of R119 refuses; else the timer takes the mode, phase, period, remaining time and trigger channel
of R120, every other timer and the timer's source stay, and the REPLY carries the timer. -/
def Obligations.SetTimerChecksAndStarts : Prop :=
  ∀ (s : State) (sequence timer mode high low trigger : Byte), Stands s 0x0D sequence [timer, mode, high, low, trigger] →
    (∀ code detail, setTimerRefusal timer mode high low trigger = some (code, detail) →
      Refuses .setTimer s 0x0D sequence code detail) ∧
    (setTimerRefusal timer mode high low trigger = none →
      ∃ (n : Fin 4) (x : IntervalTimer), n.val = timer.toNat ∧ x.mode.code = mode ∧
        x.period = high.toNat * 256 + low.toNat ∧
        (x.mode = .off → x.phase = .stopped ∧ x.remaining = 0 ∧ x.trigger = none) ∧
        (x.mode = .once ∨ x.mode = .repeating →
          x.phase = .running ∧ x.remaining = x.period * 100 ∧ x.trigger = none) ∧
        (x.mode = .onTrigger →
          x.phase = .waiting ∧ x.remaining = 0 ∧ ∃ c, x.trigger = some c ∧ c.val = trigger.toNat) ∧
        Replies .setTimer s { s with timer := { s.timer with timers := s.timer.timers.set n x } } 0x0D sequence
          [timer, mode, x.phase.code, high, low, if x.phase = .running then high else 0,
            if x.phase = .running then low else 0, if x.mode = .onTrigger then trigger else 0xFF])

/-- GET TIMER changes nothing and reports the timer, its remaining time in units of 100 µs rounded up (R122). -/
def Obligations.GetTimerReportsTheTimer : Prop :=
  ∀ (s : State) (sequence timer : Byte), Stands s 0x0E sequence [timer] →
    (3 < timer.toNat → Refuses .getTimer s 0x0E sequence 0x04 0) ∧
    (∀ n : Fin 4, n.val = timer.toNat →
      ∃ units : Nat,
        ((s.intervalTimer n).phase ≠ .running → units = 0) ∧
        ((s.intervalTimer n).phase = .running → 0 < (s.intervalTimer n).remaining →
          100 * (units - 1) < (s.intervalTimer n).remaining ∧ (s.intervalTimer n).remaining ≤ 100 * units) ∧
        Replies .getTimer s s 0x0E sequence
          ([timer, (s.intervalTimer n).mode.code, (s.intervalTimer n).phase.code] ++
            bytes16 (.ofNat 16 (s.intervalTimer n).period) ++ bytes16 (.ofNat 16 units) ++
            [match (s.intervalTimer n).trigger with | none => 0xFF | some c => byteOf c.val]))

/-- SET TIME loads the time base and reports the value before the load, every timer and stored time untouched; GET TIME changes nothing
and reports the value (R111, R112). -/
def Obligations.TheTimeBaseIsLoadedAndRead : Prop :=
  ∀ (s : State) (sequence : Byte),
    (∀ value : BitVec 32, Stands s 0x0F sequence (bytes32 value) →
      Replies .setTime s { s with timer := { s.timer with timeBase := value } } 0x0F sequence
        (bytes32 s.timer.timeBase)) ∧
    (Stands s 0x10 sequence [] → Replies .getTime s s 0x10 sequence (bytes32 s.timer.timeBase))

/-- SET RING: the first field out of range refuses; else the snapshot option and the watermark are written, the records and the counter
stay, no crossing is made, and the REPLY gives the fill and the counter (R88, R89). -/
def Obligations.SetRingWritesItsTwoSettings : Prop :=
  ∀ (s : State) (sequence ring snapshot watermark : Byte), Stands s 0x11 sequence [ring, snapshot, watermark] →
    (3 < ring.toNat → Refuses .setRing s 0x11 sequence 0x04 0) ∧
    (ring.toNat ≤ 3 → 1 < snapshot.toNat → Refuses .setRing s 0x11 sequence 0x04 1) ∧
    (ring.toNat ≤ 3 → snapshot.toNat ≤ 1 → 64 < watermark.toNat → Refuses .setRing s 0x11 sequence 0x04 2) ∧
    (∀ n : Fin 4, n.val = ring.toNat → snapshot.toNat ≤ 1 → watermark.toNat ≤ 64 →
      Replies .setRing s
        (s.setRingTo n { s.ring n with snapshot := snapshot == 1, watermark := watermark.toNat }) 0x11 sequence
        ([ring, snapshot, watermark, byteOf (s.ring n).records.length] ++ bytes16 (s.ring n).counter))

/-- DRAIN RING takes the oldest records, as many as the maximum or as the ring holds, and returns them oldest first; DISCARD RING removes
them all; both keep the counter and the settings, and every other ring (R90, R91, R93). -/
def Obligations.RingsAreDrainedAndDiscarded : Prop :=
  ∀ (s : State) (sequence ring : Byte),
    (∀ maximum : Byte, Stands s 0x12 sequence [ring, maximum] →
      (3 < ring.toNat → Refuses .drainRing s 0x12 sequence 0x04 0) ∧
      (ring.toNat ≤ 3 → maximum.toNat = 0 ∨ 6 < maximum.toNat → Refuses .drainRing s 0x12 sequence 0x04 1) ∧
      (∀ (n : Fin 4) (returned kept : List CaptureRecord), n.val = ring.toNat → 1 ≤ maximum.toNat → maximum.toNat ≤ 6 →
        (s.ring n).records = returned ++ kept → returned.length = min maximum.toNat (s.ring n).records.length →
        Replies .drainRing s (s.setRingTo n { s.ring n with records := kept }) 0x12 sequence
          ([ring, byteOf returned.length, byteOf kept.length] ++ (returned.map CaptureRecord.bytes).flatten))) ∧
    (Stands s 0x13 sequence [ring] →
      (3 < ring.toNat → Refuses .discardRing s 0x13 sequence 0x04 0) ∧
      (∀ n : Fin 4, n.val = ring.toNat →
        Replies .discardRing s (s.setRingTo n { s.ring n with records := [] }) 0x13 sequence
          ([ring, byteOf (s.ring n).records.length] ++ bytes16 (s.ring n).counter)))

/-- SET OUTPUTS changes the selected lines of the live pattern, and the pins, while the outputs are LIVE, and is refused with the
hold-cause set while they are SAFE_HELD (R126); HOLD OUTPUTS is taken in every output state, adds HOST, makes the outputs SAFE_HELD, and
makes no occurrence (R128). -/
def Obligations.OutputsAreSetWhileLiveAndHeldAtAnyTime : Prop :=
  ∀ (s : State) (sequence : Byte),
    (∀ mask values : Byte, Stands s 0x14 sequence [mask, values] →
      (s.output.mode = .safeHeld → Refuses .setOutputs s 0x14 sequence 0x0A s.output.causes.code) ∧
      (s.output.mode = .live →
        ∃ pattern : Byte,
          (∀ line < 8, pattern.getLsbD line =
            if mask.getLsbD line = true then values.getLsbD line else s.output.livePattern.getLsbD line) ∧
          State.outputLines { s with output := { s.output with livePattern := pattern } } = pattern ∧
          Replies .setOutputs s { s with output := { s.output with livePattern := pattern } } 0x14 sequence
            [pattern, 0])) ∧
    (Stands s 0x15 sequence [] →
      ∃ t, Replies .holdOutputs s t 0x15 sequence [1, t.output.causes.code] ∧
        t = { s with output := { s.output with causes := { s.output.causes with host := true }, mode := .safeHeld } } ∧
        t.outputLines = s.output.safePattern)

/-- RELEASE OUTPUTS with its guard: refused with detail 40 while STOP is active; else the causes are emptied, the live pattern loaded and
the outputs LIVE, so that the lines show it; the safe pattern and every other unit stay (R129). -/
def Obligations.ReleaseEmptiesTheCausesUnlessStopIsActive : Prop :=
  ∀ (s : State) (sequence guard pattern : Byte), Stands s 0x16 sequence [guard, pattern] →
    guard.toNat = 255 - sequence.toNat →
    (s.protection.stopActive = true → Refuses .releaseOutputs s 0x16 sequence 0x0A 40) ∧
    (s.protection.stopActive = false →
      ∃ t, Replies .releaseOutputs s t 0x16 sequence [0, 0, pattern] ∧ t.outputLines = pattern ∧
        t = { s with
          output :=
            { livePattern := pattern, safePattern := s.output.safePattern, mode := .live,
              causes := { start := false, stop := false, silence := false, host := false } } })

/-- SET SAFE with its guard writes the safe pattern in every output state; the lines take it at once in SAFE_HELD and stay in LIVE; the
output state, the causes and the live pattern stay (R131). -/
def Obligations.SetSafeWritesTheSafePattern : Prop :=
  ∀ (s : State) (sequence guard pattern : Byte), Stands s 0x17 sequence [guard, pattern] →
    guard.toNat = 255 - sequence.toNat →
    ∃ t, Replies .setSafe s t 0x17 sequence [pattern, s.output.mode.code] ∧
      t = { s with output := { s.output with safePattern := pattern } } ∧
      (s.output.mode = .safeHeld → t.outputLines = pattern) ∧ (s.output.mode = .live → t.outputLines = s.outputLines)

/-- SET STOP with its guard: the first field out of range refuses; else the settings are written, a change of filter code restarts the
STOP qualification or, to code 0, accepts it, and the STOP active condition is evaluated, in one step (R55, R56, R66). The model's
reading: the occurrence of source 40 travels by log 5. -/
def Obligations.SetStopWritesAndEvaluates : Prop :=
  ∀ (s : State) (sequence guard enable level code : Byte), Stands s 0x18 sequence [guard, enable, level, code] →
    guard.toNat = 255 - sequence.toNat →
    (1 < enable.toNat → Refuses .setStop s 0x18 sequence 0x04 1) ∧
    (enable.toNat ≤ 1 → 1 < level.toNat → Refuses .setStop s 0x18 sequence 0x04 2) ∧
    (enable.toNat ≤ 1 → level.toNat ≤ 1 → 7 < code.toNat → Refuses .setStop s 0x18 sequence 0x04 3) ∧
    (∀ k : Fin 8, enable.toNat ≤ 1 → level.toNat ≤ 1 → k.val = code.toNat →
      ∃ pin : StopPin, pin.raw = s.input.stop.raw ∧
        (s.input.stop.qualifying = none ∨ k = s.protection.stopCode → pin = s.input.stop) ∧
        (s.input.stop.qualifying ≠ none → k ≠ s.protection.stopCode → k ≠ 0 →
          pin = { s.input.stop with qualifying := some 0 }) ∧
        (s.input.stop.qualifying ≠ none → k ≠ s.protection.stopCode → k = 0 →
          pin = { s.input.stop with filtered := s.input.stop.raw, qualifying := none }) ∧
        Replies .setStop s
          (stopEvaluated
            { s with
              input := { s.input with stop := pin }
              protection := { s.protection with
                stopEnable := enable == 1, stopActiveLevel := level == 1, stopCode := k } }
            (enable == 1 && (pin.filtered == (level == 1))))
          0x18 sequence
          [enable, level, code, if pin.filtered = true then 1 else 0,
            if enable = 1 ∧ pin.filtered = (level == 1) then 1 else 0])

/-- SET SILENCE with its guard writes the timeout, and starts the timer with the full timeout, or stops it with a timeout of 0; the hold
causes and source 41 stay (R68). -/
def Obligations.SetSilenceStartsOrStopsTheTimer : Prop :=
  ∀ (s : State) (sequence guard timeout : Byte), Stands s 0x19 sequence [guard, timeout] →
    guard.toNat = 255 - sequence.toNat →
    Replies .setSilence s
      { s with
        protection := { s.protection with
          silenceTimeout := timeout.toNat
          silenceTimer := if timeout = 0 then none else some (timeout.toNat * 10000) } }
      0x19 sequence [timeout]

/-- RESTART with its guard queues and logs a REPLY without data and opens the restart window; nothing else changes yet (R165). -/
def Obligations.RestartOpensTheWindow : Prop :=
  ∀ (s : State) (sequence guard : Byte), Stands s 0x1A sequence [guard] → guard.toNat = 255 - sequence.toNat →
    Replies .restart s { s with command := { s.command with window := true } } 0x1A sequence []
end

