-- ==== Sys2Proof/Laws/State.lean ====
section
/-! SUPPORT. Reading a table and the units of a state after each named update: what the update writes, and that it leaves the rest. -/

namespace Sys2Proof

namespace Table

variable {n : Nat} {α β : Type}

@[ext] theorem ext_get {t u : Table n α} (h : ∀ i, t.get i = u.get i) : t = u := by
  obtain ⟨l, hl⟩ := t
  obtain ⟨m, hm⟩ := u
  have hlm : l = m := by
    apply List.ext_getElem (by omega)
    intro i h₁ _
    exact h ⟨i, by omega⟩
  subst hlm
  rfl

@[simp] theorem get_set_same (t : Table n α) (i : Fin n) (a : α) : (t.set i a).get i = a := by
  simp [get, set]

theorem get_set (t : Table n α) (i j : Fin n) (a : α) : (t.set i a).get j = if i = j then a else t.get j := by
  simp [get, set, List.getElem_set, Fin.ext_iff]

@[simp] theorem get_set_other (t : Table n α) {i j : Fin n} (a : α) (h : i ≠ j) : (t.set i a).get j = t.get j := by
  simp [get_set, h]

@[simp] theorem get_map (t : Table n α) (f : α → β) (i : Fin n) : (t.map f).get i = f (t.get i) := by
  simp [get, map]

@[simp] theorem get_ofFn (f : Fin n → α) (i : Fin n) : (Table.ofFn f).get i = f i := by
  simp [get, ofFn]

@[simp] theorem set_set (t : Table n α) (i : Fin n) (a b : α) : (t.set i a).set i b = t.set i b := by
  ext1 j
  by_cases h : i = j <;> simp [h]

@[simp] theorem set_get (t : Table n α) (i : Fin n) : t.set i (t.get i) = t := by
  ext1 j
  by_cases h : i = j <;> simp [h]

end Table

end Sys2Proof

namespace Sys2Proof.Machine

/-! ### `State.setSource` -/

@[simp] theorem State.setSource_held (s : State) (n : Fin 42) (r : SourceRecord) : (s.setSource n r).held = s.held := rfl
@[simp] theorem State.setSource_input (s : State) (n : Fin 42) (r : SourceRecord) : (s.setSource n r).input = s.input := rfl
@[simp] theorem State.setSource_timer (s : State) (n : Fin 42) (r : SourceRecord) : (s.setSource n r).timer = s.timer := rfl
@[simp] theorem State.setSource_event (s : State) (n : Fin 42) (r : SourceRecord) :
    (s.setSource n r).event = { s.event with sources := s.event.sources.set n r } := rfl
@[simp] theorem State.setSource_capture (s : State) (n : Fin 42) (r : SourceRecord) : (s.setSource n r).capture = s.capture := rfl
@[simp] theorem State.setSource_delivery (s : State) (n : Fin 42) (r : SourceRecord) : (s.setSource n r).delivery = s.delivery := rfl
@[simp] theorem State.setSource_protection (s : State) (n : Fin 42) (r : SourceRecord) : (s.setSource n r).protection = s.protection := rfl
@[simp] theorem State.setSource_output (s : State) (n : Fin 42) (r : SourceRecord) : (s.setSource n r).output = s.output := rfl
@[simp] theorem State.setSource_link (s : State) (n : Fin 42) (r : SourceRecord) : (s.setSource n r).link = s.link := rfl
@[simp] theorem State.setSource_command (s : State) (n : Fin 42) (r : SourceRecord) : (s.setSource n r).command = s.command := rfl
@[simp] theorem State.setSource_choices (s : State) (n : Fin 42) (r : SourceRecord) : (s.setSource n r).choices = s.choices := rfl
@[simp] theorem State.setSource_pending (s : State) (n : Fin 42) (r : SourceRecord) : (s.setSource n r).pending = s.pending := rfl

/-! ### `State.setRingTo` -/

@[simp] theorem State.setRingTo_held (s : State) (n : Fin 4) (r : Ring) : (s.setRingTo n r).held = s.held := rfl
@[simp] theorem State.setRingTo_input (s : State) (n : Fin 4) (r : Ring) : (s.setRingTo n r).input = s.input := rfl
@[simp] theorem State.setRingTo_timer (s : State) (n : Fin 4) (r : Ring) : (s.setRingTo n r).timer = s.timer := rfl
@[simp] theorem State.setRingTo_event (s : State) (n : Fin 4) (r : Ring) : (s.setRingTo n r).event = s.event := rfl
@[simp] theorem State.setRingTo_capture (s : State) (n : Fin 4) (r : Ring) :
    (s.setRingTo n r).capture = { s.capture with rings := s.capture.rings.set n r } := rfl
@[simp] theorem State.setRingTo_delivery (s : State) (n : Fin 4) (r : Ring) : (s.setRingTo n r).delivery = s.delivery := rfl
@[simp] theorem State.setRingTo_protection (s : State) (n : Fin 4) (r : Ring) : (s.setRingTo n r).protection = s.protection := rfl
@[simp] theorem State.setRingTo_output (s : State) (n : Fin 4) (r : Ring) : (s.setRingTo n r).output = s.output := rfl
@[simp] theorem State.setRingTo_link (s : State) (n : Fin 4) (r : Ring) : (s.setRingTo n r).link = s.link := rfl
@[simp] theorem State.setRingTo_command (s : State) (n : Fin 4) (r : Ring) : (s.setRingTo n r).command = s.command := rfl
@[simp] theorem State.setRingTo_choices (s : State) (n : Fin 4) (r : Ring) : (s.setRingTo n r).choices = s.choices := rfl
@[simp] theorem State.setRingTo_pending (s : State) (n : Fin 4) (r : Ring) : (s.setRingTo n r).pending = s.pending := rfl

/-! ### `State.setChannel` -/

@[simp] theorem State.setChannel_held (s : State) (n : Fin 32) (c : Channel) : (s.setChannel n c).held = s.held := rfl
@[simp] theorem State.setChannel_input (s : State) (n : Fin 32) (c : Channel) :
    (s.setChannel n c).input = { s.input with channels := s.input.channels.set n c } := rfl
@[simp] theorem State.setChannel_timer (s : State) (n : Fin 32) (c : Channel) : (s.setChannel n c).timer = s.timer := rfl
@[simp] theorem State.setChannel_event (s : State) (n : Fin 32) (c : Channel) : (s.setChannel n c).event = s.event := rfl
@[simp] theorem State.setChannel_capture (s : State) (n : Fin 32) (c : Channel) : (s.setChannel n c).capture = s.capture := rfl
@[simp] theorem State.setChannel_delivery (s : State) (n : Fin 32) (c : Channel) : (s.setChannel n c).delivery = s.delivery := rfl
@[simp] theorem State.setChannel_protection (s : State) (n : Fin 32) (c : Channel) : (s.setChannel n c).protection = s.protection := rfl
@[simp] theorem State.setChannel_output (s : State) (n : Fin 32) (c : Channel) : (s.setChannel n c).output = s.output := rfl
@[simp] theorem State.setChannel_link (s : State) (n : Fin 32) (c : Channel) : (s.setChannel n c).link = s.link := rfl
@[simp] theorem State.setChannel_command (s : State) (n : Fin 32) (c : Channel) : (s.setChannel n c).command = s.command := rfl
@[simp] theorem State.setChannel_choices (s : State) (n : Fin 32) (c : Channel) : (s.setChannel n c).choices = s.choices := rfl
@[simp] theorem State.setChannel_pending (s : State) (n : Fin 32) (c : Channel) : (s.setChannel n c).pending = s.pending := rfl

/-! ### `State.setIntervalTimer` -/

@[simp] theorem State.setIntervalTimer_held (s : State) (n : Fin 4) (x : IntervalTimer) : (s.setIntervalTimer n x).held = s.held := rfl
@[simp] theorem State.setIntervalTimer_input (s : State) (n : Fin 4) (x : IntervalTimer) : (s.setIntervalTimer n x).input = s.input := rfl
@[simp] theorem State.setIntervalTimer_timer (s : State) (n : Fin 4) (x : IntervalTimer) : (s.setIntervalTimer n x).timer = { s.timer with timers := s.timer.timers.set n x } := rfl
@[simp] theorem State.setIntervalTimer_event (s : State) (n : Fin 4) (x : IntervalTimer) : (s.setIntervalTimer n x).event = s.event := rfl
@[simp] theorem State.setIntervalTimer_capture (s : State) (n : Fin 4) (x : IntervalTimer) : (s.setIntervalTimer n x).capture = s.capture := rfl
@[simp] theorem State.setIntervalTimer_delivery (s : State) (n : Fin 4) (x : IntervalTimer) : (s.setIntervalTimer n x).delivery = s.delivery := rfl
@[simp] theorem State.setIntervalTimer_protection (s : State) (n : Fin 4) (x : IntervalTimer) : (s.setIntervalTimer n x).protection = s.protection := rfl
@[simp] theorem State.setIntervalTimer_output (s : State) (n : Fin 4) (x : IntervalTimer) : (s.setIntervalTimer n x).output = s.output := rfl
@[simp] theorem State.setIntervalTimer_link (s : State) (n : Fin 4) (x : IntervalTimer) : (s.setIntervalTimer n x).link = s.link := rfl
@[simp] theorem State.setIntervalTimer_command (s : State) (n : Fin 4) (x : IntervalTimer) : (s.setIntervalTimer n x).command = s.command := rfl
@[simp] theorem State.setIntervalTimer_choices (s : State) (n : Fin 4) (x : IntervalTimer) : (s.setIntervalTimer n x).choices = s.choices := rfl
@[simp] theorem State.setIntervalTimer_pending (s : State) (n : Fin 4) (x : IntervalTimer) : (s.setIntervalTimer n x).pending = s.pending := rfl

/-! ### `State.setStopPin` -/

@[simp] theorem State.setStopPin_held (s : State) (p : StopPin) : (s.setStopPin p).held = s.held := rfl
@[simp] theorem State.setStopPin_input (s : State) (p : StopPin) : (s.setStopPin p).input = { s.input with stop := p } := rfl
@[simp] theorem State.setStopPin_timer (s : State) (p : StopPin) : (s.setStopPin p).timer = s.timer := rfl
@[simp] theorem State.setStopPin_event (s : State) (p : StopPin) : (s.setStopPin p).event = s.event := rfl
@[simp] theorem State.setStopPin_capture (s : State) (p : StopPin) : (s.setStopPin p).capture = s.capture := rfl
@[simp] theorem State.setStopPin_delivery (s : State) (p : StopPin) : (s.setStopPin p).delivery = s.delivery := rfl
@[simp] theorem State.setStopPin_protection (s : State) (p : StopPin) : (s.setStopPin p).protection = s.protection := rfl
@[simp] theorem State.setStopPin_output (s : State) (p : StopPin) : (s.setStopPin p).output = s.output := rfl
@[simp] theorem State.setStopPin_link (s : State) (p : StopPin) : (s.setStopPin p).link = s.link := rfl
@[simp] theorem State.setStopPin_command (s : State) (p : StopPin) : (s.setStopPin p).command = s.command := rfl
@[simp] theorem State.setStopPin_choices (s : State) (p : StopPin) : (s.setStopPin p).choices = s.choices := rfl
@[simp] theorem State.setStopPin_pending (s : State) (p : StopPin) : (s.setStopPin p).pending = s.pending := rfl

/-! ### `State.raise` -/

@[simp] theorem State.raise_held (s : State) (o : Occurrence) : (s.raise o).held = s.held := rfl
@[simp] theorem State.raise_input (s : State) (o : Occurrence) : (s.raise o).input = s.input := rfl
@[simp] theorem State.raise_timer (s : State) (o : Occurrence) : (s.raise o).timer = s.timer := rfl
@[simp] theorem State.raise_event (s : State) (o : Occurrence) :
    (s.raise o).event = { s.event with arriving := s.event.arriving ++ [{ occurrence := o, age := 0 }] } := rfl
@[simp] theorem State.raise_capture (s : State) (o : Occurrence) : (s.raise o).capture = s.capture := rfl
@[simp] theorem State.raise_delivery (s : State) (o : Occurrence) : (s.raise o).delivery = s.delivery := rfl
@[simp] theorem State.raise_protection (s : State) (o : Occurrence) : (s.raise o).protection = s.protection := rfl
@[simp] theorem State.raise_output (s : State) (o : Occurrence) : (s.raise o).output = s.output := rfl
@[simp] theorem State.raise_link (s : State) (o : Occurrence) : (s.raise o).link = s.link := rfl
@[simp] theorem State.raise_command (s : State) (o : Occurrence) : (s.raise o).command = s.command := rfl
@[simp] theorem State.raise_choices (s : State) (o : Occurrence) : (s.raise o).choices = s.choices := rfl
@[simp] theorem State.raise_pending (s : State) (o : Occurrence) : (s.raise o).pending = s.pending := rfl

/-! ### `State.holdClaim` -/

@[simp] theorem State.holdClaim_held (s : State) (c : HoldCause) : (s.holdClaim c).held = s.held := rfl
@[simp] theorem State.holdClaim_input (s : State) (c : HoldCause) : (s.holdClaim c).input = s.input := rfl
@[simp] theorem State.holdClaim_timer (s : State) (c : HoldCause) : (s.holdClaim c).timer = s.timer := rfl
@[simp] theorem State.holdClaim_event (s : State) (c : HoldCause) : (s.holdClaim c).event = s.event := rfl
@[simp] theorem State.holdClaim_capture (s : State) (c : HoldCause) : (s.holdClaim c).capture = s.capture := rfl
@[simp] theorem State.holdClaim_delivery (s : State) (c : HoldCause) : (s.holdClaim c).delivery = s.delivery := rfl
@[simp] theorem State.holdClaim_protection (s : State) (c : HoldCause) : (s.holdClaim c).protection = s.protection := rfl
@[simp] theorem State.holdClaim_output (s : State) (c : HoldCause) :
    (s.holdClaim c).output = { s.output with causes := s.output.causes.add c, mode := .safeHeld } := rfl
@[simp] theorem State.holdClaim_link (s : State) (c : HoldCause) : (s.holdClaim c).link = s.link := rfl
@[simp] theorem State.holdClaim_command (s : State) (c : HoldCause) : (s.holdClaim c).command = s.command := rfl
@[simp] theorem State.holdClaim_choices (s : State) (c : HoldCause) : (s.holdClaim c).choices = s.choices := rfl
@[simp] theorem State.holdClaim_pending (s : State) (c : HoldCause) : (s.holdClaim c).pending = s.pending := rfl

/-! ### `State.emptyIntake` -/

@[simp] theorem State.emptyIntake_held (s : State) : s.emptyIntake.held = s.held := rfl
@[simp] theorem State.emptyIntake_input (s : State) : s.emptyIntake.input = s.input := rfl
@[simp] theorem State.emptyIntake_timer (s : State) : s.emptyIntake.timer = s.timer := rfl
@[simp] theorem State.emptyIntake_event (s : State) : s.emptyIntake.event = s.event := rfl
@[simp] theorem State.emptyIntake_capture (s : State) : s.emptyIntake.capture = s.capture := rfl
@[simp] theorem State.emptyIntake_delivery (s : State) : s.emptyIntake.delivery = s.delivery := rfl
@[simp] theorem State.emptyIntake_protection (s : State) : s.emptyIntake.protection = s.protection := rfl
@[simp] theorem State.emptyIntake_output (s : State) : s.emptyIntake.output = s.output := rfl
@[simp] theorem State.emptyIntake_link (s : State) : s.emptyIntake.link = { s.link with intake := none } := rfl
@[simp] theorem State.emptyIntake_command (s : State) : s.emptyIntake.command = s.command := rfl
@[simp] theorem State.emptyIntake_choices (s : State) : s.emptyIntake.choices = s.choices := rfl
@[simp] theorem State.emptyIntake_pending (s : State) : s.emptyIntake.pending = s.pending := rfl

/-! ### `State.queueAnswer` -/

@[simp] theorem State.queueAnswer_held (s : State) (q : Byte) (a : Answer) : (s.queueAnswer q a).held = s.held := rfl
@[simp] theorem State.queueAnswer_input (s : State) (q : Byte) (a : Answer) : (s.queueAnswer q a).input = s.input := rfl
@[simp] theorem State.queueAnswer_timer (s : State) (q : Byte) (a : Answer) : (s.queueAnswer q a).timer = s.timer := rfl
@[simp] theorem State.queueAnswer_event (s : State) (q : Byte) (a : Answer) : (s.queueAnswer q a).event = s.event := rfl
@[simp] theorem State.queueAnswer_capture (s : State) (q : Byte) (a : Answer) : (s.queueAnswer q a).capture = s.capture := rfl
@[simp] theorem State.queueAnswer_delivery (s : State) (q : Byte) (a : Answer) : (s.queueAnswer q a).delivery = s.delivery := rfl
@[simp] theorem State.queueAnswer_protection (s : State) (q : Byte) (a : Answer) : (s.queueAnswer q a).protection = s.protection := rfl
@[simp] theorem State.queueAnswer_output (s : State) (q : Byte) (a : Answer) : (s.queueAnswer q a).output = s.output := rfl
@[simp] theorem State.queueAnswer_link (s : State) (q : Byte) (a : Answer) : (s.queueAnswer q a).link = { s.link with notes := Notes.empty } := rfl
@[simp] theorem State.queueAnswer_command (s : State) (q : Byte) (a : Answer) :
    (s.queueAnswer q a).command = { s.command with
      replyQueue := s.command.replyQueue ++ [{ sequence := q, answer := a, notes := s.link.notes }] } := rfl
@[simp] theorem State.queueAnswer_choices (s : State) (q : Byte) (a : Answer) : (s.queueAnswer q a).choices = s.choices := rfl
@[simp] theorem State.queueAnswer_pending (s : State) (q : Byte) (a : Answer) : (s.queueAnswer q a).pending = s.pending := rfl

/-! ### `State.answerNew` -/

@[simp] theorem State.answerNew_held (s : State) (q : Byte) (a : Answer) : (s.answerNew q a).held = s.held := rfl
@[simp] theorem State.answerNew_input (s : State) (q : Byte) (a : Answer) : (s.answerNew q a).input = s.input := rfl
@[simp] theorem State.answerNew_timer (s : State) (q : Byte) (a : Answer) : (s.answerNew q a).timer = s.timer := rfl
@[simp] theorem State.answerNew_event (s : State) (q : Byte) (a : Answer) : (s.answerNew q a).event = s.event := rfl
@[simp] theorem State.answerNew_capture (s : State) (q : Byte) (a : Answer) : (s.answerNew q a).capture = s.capture := rfl
@[simp] theorem State.answerNew_delivery (s : State) (q : Byte) (a : Answer) : (s.answerNew q a).delivery = s.delivery := rfl
@[simp] theorem State.answerNew_protection (s : State) (q : Byte) (a : Answer) : (s.answerNew q a).protection = s.protection := rfl
@[simp] theorem State.answerNew_output (s : State) (q : Byte) (a : Answer) : (s.answerNew q a).output = s.output := rfl
@[simp] theorem State.answerNew_link (s : State) (q : Byte) (a : Answer) : (s.answerNew q a).link = { s.link with notes := Notes.empty } := rfl
@[simp] theorem State.answerNew_command (s : State) (q : Byte) (a : Answer) :
    (s.answerNew q a).command = { s.command with
      replyQueue := s.command.replyQueue ++ [{ sequence := q, answer := a, notes := s.link.notes }]
      replyLog := joinLog s.command.replyLog { sequence := q, answer := a } } := rfl
@[simp] theorem State.answerNew_choices (s : State) (q : Byte) (a : Answer) : (s.answerNew q a).choices = s.choices := rfl
@[simp] theorem State.answerNew_pending (s : State) (q : Byte) (a : Answer) : (s.answerNew q a).pending = s.pending := rfl

/-! ### `State.restartNow` -/

@[simp] theorem State.restartNow_held (s : State) : s.restartNow.held = s.held := rfl
@[simp] theorem State.restartNow_input (s : State) :
    s.restartNow.input = { s.input with channels := s.input.channels.map fun c => Channel.reset c.raw } := rfl
@[simp] theorem State.restartNow_timer (s : State) :
    s.restartNow.timer = { TimerUnit.reset with timeBase := s.timer.timeBase } := rfl
@[simp] theorem State.restartNow_event (s : State) : s.restartNow.event = .reset := rfl
@[simp] theorem State.restartNow_capture (s : State) : s.restartNow.capture = .reset := rfl
@[simp] theorem State.restartNow_delivery (s : State) : s.restartNow.delivery = .reset := rfl
@[simp] theorem State.restartNow_protection (s : State) :
    s.restartNow.protection = { s.protection with silenceTimer := silenceTimerFor s.protection.silenceTimeout } := rfl
@[simp] theorem State.restartNow_output (s : State) : s.restartNow.output = s.output := rfl
@[simp] theorem State.restartNow_link (s : State) :
    s.restartNow.link = { s.link with notes := Notes.empty, noticeSlot := none } := rfl
@[simp] theorem State.restartNow_command (s : State) :
    s.restartNow.command =
      { replyQueue := [], replyLog := [], window := false, lastReset := .restart
        startNotice := some
          { cause := .restart, outputState := s.output.mode, causes := s.output.causes,
            stopActive := s.protection.stopActive } } := rfl
@[simp] theorem State.restartNow_choices (s : State) : s.restartNow.choices = s.choices := rfl
@[simp] theorem State.restartNow_pending (s : State) : s.restartNow.pending = s.pending := rfl

/-! ### Rows of the tables -/

theorem State.source_setSource (s : State) (n m : Fin 42) (r : SourceRecord) :
    (s.setSource n r).source m = if n = m then r else s.source m := Table.get_set ..

theorem State.ring_setRingTo (s : State) (n m : Fin 4) (r : Ring) :
    (s.setRingTo n r).ring m = if n = m then r else s.ring m := Table.get_set ..

theorem State.channel_setChannel (s : State) (n m : Fin 32) (c : Channel) :
    (s.setChannel n c).channel m = if n = m then c else s.channel m := Table.get_set ..

theorem State.intervalTimer_setIntervalTimer (s : State) (n m : Fin 4) (x : IntervalTimer) :
    (s.setIntervalTimer n x).intervalTimer m = if n = m then x else s.intervalTimer m := Table.get_set ..

@[simp] theorem State.source_setSource_same (s : State) (n : Fin 42) (r : SourceRecord) :
    (s.setSource n r).source n = r := by simp [State.source_setSource]

@[simp] theorem State.ring_setRingTo_same (s : State) (n : Fin 4) (r : Ring) : (s.setRingTo n r).ring n = r := by
  simp [State.ring_setRingTo]

@[simp] theorem State.channel_setChannel_same (s : State) (n : Fin 32) (c : Channel) :
    (s.setChannel n c).channel n = c := by simp [State.channel_setChannel]

@[simp] theorem State.intervalTimer_setIntervalTimer_same (s : State) (n : Fin 4) (x : IntervalTimer) :
    (s.setIntervalTimer n x).intervalTimer n = x := by simp [State.intervalTimer_setIntervalTimer]

/-- The rows of an updated state that another unit holds are the old ones: a row depends on its own unit alone. -/
theorem State.source_congr {s t : State} (h : t.event.sources = s.event.sources) (n : Fin 42) : t.source n = s.source n := by
  simp only [State.source, h]

theorem State.ring_congr {s t : State} (h : t.capture = s.capture) (n : Fin 4) : t.ring n = s.ring n := by
  simp only [State.ring, h]

theorem State.channel_congr {s t : State} (h : t.input.channels = s.input.channels) (n : Fin 32) :
    t.channel n = s.channel n := by simp only [State.channel, h]

theorem State.intervalTimer_congr {s t : State} (h : t.timer.timers = s.timer.timers) (n : Fin 4) :
    t.intervalTimer n = s.intervalTimer n := by simp only [State.intervalTimer, h]

end Sys2Proof.Machine
end

