-- ==== Sys2Proof/Laws/Ops.lean ====
section
/-! SUPPORT. What each shared operation can do, said once: later proofs cite these and do not unfold the operations. -/

namespace Sys2Proof.Machine

/-! ### Fields of requests -/

theorem number?_eq_some {n k : Nat} {i : Fin n} : number? n k = some i ↔ i.val = k := by
  unfold number?
  split
  · simp only [Option.some.injEq, Fin.ext_iff]
    exact eq_comm
  · rename_i h
    simp only [reduceCtorEq, false_iff]
    intro hi
    exact h (hi ▸ i.isLt)

theorem number?_eq_none {n k : Nat} : number? n k = none ↔ n ≤ k := by
  unfold number?
  split <;> simp <;> omega

@[simp] theorem number?_val {n : Nat} (i : Fin n) : number? n i.val = some i := number?_eq_some.2 rfl

theorem bounded?_eq_some {low high v : Nat} {b : Byte} :
    bounded? low high b = some v ↔ low ≤ b.toNat ∧ b.toNat ≤ high ∧ v = b.toNat := by
  unfold bounded?
  split <;> simp_all [eq_comm]

theorem bounded?_eq_none {low high : Nat} {b : Byte} : bounded? low high b = none ↔ b.toNat < low ∨ high < b.toNat := by
  unfold bounded?
  split <;> simp <;> omega

@[simp] theorem field_some {α : Type} (offset : Nat) (v : α) (k : α → Verdict) : field offset (some v) k = k v := rfl

@[simp] theorem field_none {α : Type} (offset : Nat) (k : α → Verdict) :
    field offset none k = .refused badFieldCode (byteOf offset) := rfl

/-- A field check passes on the value, or refuses with the offset. -/
theorem field_cases {α : Type} (offset : Nat) (v? : Option α) (k : α → Verdict) :
    (∃ v, v? = some v ∧ field offset v? k = k v) ∨
      (v? = none ∧ field offset v? k = .refused badFieldCode (byteOf offset)) := by
  cases v? with
  | none => exact .inr ⟨rfl, rfl⟩
  | some v => exact .inl ⟨v, rfl, rfl⟩

theorem guarded_right {r : Request} {guard : Byte} (h : guard = 255 - r.sequence) (k : Verdict) : guarded r guard k = k :=
  if_pos h

theorem guarded_wrong {r : Request} {guard : Byte} (h : guard ≠ 255 - r.sequence) (k : Verdict) :
    guarded r guard k = .refused guardCode guard :=
  if_neg h

/-- The guard rule in numbers: the complement of a byte is 255 minus it. -/
theorem complement_iff (guard sequence : Byte) : guard = 255 - sequence ↔ guard.toNat = 255 - sequence.toNat := by
  rw [← BitVec.toNat_inj, BitVec.toNat_sub]
  have := sequence.isLt
  have : (255 : Byte).toNat = 255 := rfl
  omega

theorem mem_listedNumbers {n : Nat} {list : List Byte} {i : Fin n} :
    i ∈ listedNumbers n list ↔ ∃ b ∈ list, b.toNat = i.val := by
  simp [listedNumbers]

/-! ### Taking a request -/

theorem State.standing?_eq_some {s : State} {r : Request} :
    s.standing? = some r ↔ s.held = false ∧ s.command.window = false ∧ s.link.intake = some r := by
  unfold State.standing?
  cases s.held <;> cases s.command.window <;> simp

theorem CommandUnit.logged?_eq_none {c : CommandUnit} {q : Byte} :
    c.logged? q = none ↔ ∀ e ∈ c.replyLog, e.sequence ≠ q := by
  simp [CommandUnit.logged?]

theorem CommandUnit.isWaiting_iff {c : CommandUnit} {q : Byte} :
    c.isWaiting q = true ↔ ∃ f ∈ c.replyQueue, f.sequence = q := by
  simp [CommandUnit.isWaiting]

/-- When a new request can be taken. -/
theorem State.newRequest?_eq_some {s : State} {r : Request} :
    s.newRequest? = some r ↔
      s.held = false ∧ s.command.window = false ∧ s.link.intake = some r ∧
        (∀ e ∈ s.command.replyLog, e.sequence ≠ r.sequence) ∧ s.command.replyQueue.length < 4 := by
  unfold State.newRequest?
  rw [← CommandUnit.logged?_eq_none]
  cases h : s.standing? with
  | none =>
    simp only [reduceCtorEq, false_iff]
    rintro ⟨h1, h2, h3, -⟩
    have := State.standing?_eq_some.2 ⟨h1, h2, h3⟩
    simp [h] at this
  | some q =>
    obtain ⟨h1, h2, h3⟩ := State.standing?_eq_some.1 h
    simp only [h1, h2, h3, Config.replyCapacity, Option.isNone_iff_eq_none, Bool.and_eq_true,
      Option.some.injEq, true_and, Option.ite_none_right_eq_some]
    constructor
    · rintro ⟨⟨h4, h5⟩, rfl⟩
      exact ⟨rfl, h4, of_decide_eq_true h5⟩
    · rintro ⟨rfl, h4, h5⟩
      exact ⟨⟨h4, decide_eq_true h5⟩, rfl⟩

theorem serve_executed {kind : Byte} {body : Request → State → Verdict} {s t : State} {r : Request} {data : List Byte}
    (h : s.newRequest? = some r) (hk : r.kind = kind) (hb : body r s.emptyIntake = .executed t data) :
    serve kind body s = .next (t.answerNew r.sequence (.reply r.kind data)) := by
  simp [serve, h, hk, hb]

theorem serve_refused {kind : Byte} {body : Request → State → Verdict} {s : State} {r : Request} {code detail : Byte}
    (h : s.newRequest? = some r) (hk : r.kind = kind) (hb : body r s.emptyIntake = .refused code detail) :
    serve kind body s = .next (s.emptyIntake.answerNew r.sequence (.refused r.kind code detail)) := by
  simp [serve, h, hk, hb]

/-- Everything the taking of a request can do: nothing, an execution with its REPLY, or a REFUSED that changes nothing else. -/
theorem serve_cases (kind : Byte) (body : Request → State → Verdict) (s : State) :
    serve kind body s = .next s ∨
      ∃ r, s.newRequest? = some r ∧ r.kind = kind ∧
        ((∃ t data, body r s.emptyIntake = .executed t data ∧
            serve kind body s = .next (t.answerNew r.sequence (.reply kind data))) ∨
          ∃ code detail, body r s.emptyIntake = .refused code detail ∧
            serve kind body s = .next (s.emptyIntake.answerNew r.sequence (.refused kind code detail))) := by
  cases h : s.newRequest? with
  | none => left; simp [serve, h]
  | some r =>
    by_cases hk : r.kind = kind
    · right
      refine ⟨r, rfl, hk, ?_⟩
      cases hb : body r s.emptyIntake with
      | executed t data => exact .inl ⟨t, data, rfl, by rw [serve_executed h hk hb, hk]⟩
      | refused code detail => exact .inr ⟨code, detail, rfl, by rw [serve_refused h hk hb, hk]⟩
    · left; simp [serve, h, hk]

/-- The same from the state reached, for proofs about what a step keeps. -/
theorem serve_next {kind : Byte} {body : Request → State → Verdict} {s t : State} (h : serve kind body s = .next t) :
    t = s ∨ ∃ r, s.newRequest? = some r ∧ r.kind = kind ∧
      ((∃ u data, body r s.emptyIntake = .executed u data ∧ t = u.answerNew r.sequence (.reply kind data)) ∨
        ∃ code detail, t = s.emptyIntake.answerNew r.sequence (.refused kind code detail)) := by
  rcases serve_cases kind body s with h' | ⟨r, hr, hk, ⟨u, data, hb, h'⟩ | ⟨code, detail, -, h'⟩⟩ <;> rw [h'] at h <;> cases h
  · exact .inl rfl
  · exact .inr ⟨r, hr, hk, .inl ⟨u, data, hb, rfl⟩⟩
  · exact .inr ⟨r, hr, hk, .inr ⟨code, detail, rfl⟩⟩

/-- A full log loses its oldest answer; a log with room grows by the new answer. -/
theorem joinLog_eq (log : List LogEntry) (e : LogEntry) :
    joinLog log e = (log ++ [e]).drop ((log ++ [e]).length - 4) := by
  by_cases h : log.length + 1 - 4 ≤ log.length
  · rw [List.drop_append_of_le_length (by simp)]
    simp [joinLog, Config.replyCapacity]
  · omega

theorem joinLog_length_le (log : List LogEntry) (e : LogEntry) : (joinLog log e).length ≤ 4 := by
  rw [joinLog_eq, List.length_drop]
  omega

theorem mem_joinLog {log : List LogEntry} {e x : LogEntry} (h : x ∈ joinLog log e) : x ∈ log ∨ x = e := by
  rw [joinLog] at h
  rcases List.mem_append.1 h with h | h
  · exact .inl (List.mem_of_mem_drop h)
  · exact .inr (by simpa using h)

/-! ### The source table and the capture rings -/

@[simp] theorem SourceRecord.latch_account (r : SourceRecord) (time : Time) :
    (r.latch time).account = some (latchAccount time r.account) := rfl

/-- An account that latches: its count is one more, up to 255, the first time stays, the last time is the new one. -/
theorem latchAccount_some (time : Time) (a : Account) :
    latchAccount time (some a) =
      { count := min 255 (a.count + 1), cause := a.cause, first := a.first, last := some time } := rfl

theorem latchAccount_none (time : Time) :
    latchAccount time none = { count := 1, cause := .occurrence, first := time, last := none } := rfl

@[simp] theorem mergeAccount_none (e : Account) : mergeAccount e none = e := rfl

/-- Everything the arrival of an occurrence can do: latch in its source's record, or be the capture claim it makes. -/
theorem State.arrive_cases (s : State) (o : Occurrence) :
    s.arrive o = s.setSource o.source ((s.source o.source).latch (o.timeAt s.timer.timeBase)) ∨
      ∃ c, o.claim? = some c ∧ (s.source o.source).mask = .unmasked ∧ (s.source o.source).mode = .capture ∧
        s.arrive o = s.captureClaim o.source c := by
  unfold State.arrive
  cases o.claim? with
  | none => exact .inl rfl
  | some c =>
    by_cases h : (s.source o.source).mask = .unmasked ∧ (s.source o.source).mode = .capture
    · exact .inr ⟨c, rfl, h.1, h.2, by simp [h]⟩
    · left; simp [h]

/-- Everything a capture claim can do: RING_FULL, or an append, which spends budget and may send a crossing. -/
theorem State.captureClaim_cases (s : State) (n : Fin 42) (c : Claim) :
    (64 ≤ (s.ring (s.source n).ring).records.length ∧
      s.captureClaim n c = s.setSource n ((s.source n).escalate c.time .ringFull)) ∨
    ((s.ring (s.source n).ring).records.length < 64 ∧
      ∃ t, t = (s.setRingTo (s.source n).ring
          ((s.ring (s.source n).ring).append ((s.ring (s.source n).ring).recordFor n c s.input.filteredLevels))).setSource n
            ((s.source n).spend c.time) ∧
        (s.captureClaim n c = t ∨
          s.captureClaim n c = t.raise (.crossing (s.source n).ring s.timer.timeBase))) := by
  unfold State.captureClaim
  by_cases h : 64 ≤ (s.ring (s.source n).ring).records.length
  · exact .inl ⟨h, by simp [Config.ringCapacity, h]⟩
  · refine .inr ⟨by omega, _, rfl, ?_⟩
    cases hx : (s.ring (s.source n).ring).crossesAt <;> simp [Config.ringCapacity, h, hx]

/-- Only sources 0 to 35 make capture claims. -/
theorem Occurrence.source_lt_of_claim {o : Occurrence} {c : Claim} (h : o.claim? = some c) : o.source.val < 36 := by
  cases o <;> simp [Occurrence.claim?, Occurrence.source] at * <;> omega

/-- Claims leave the pins, the timers, the delivery unit, the outputs, the link and the command unit as they are. -/
theorem State.arrive_frame (s : State) (o : Occurrence) :
    (s.arrive o).held = s.held ∧ (s.arrive o).input = s.input ∧ (s.arrive o).timer = s.timer ∧
      (s.arrive o).delivery = s.delivery ∧ (s.arrive o).protection = s.protection ∧ (s.arrive o).output = s.output ∧
      (s.arrive o).link = s.link ∧ (s.arrive o).command = s.command ∧ (s.arrive o).choices = s.choices ∧
      (s.arrive o).pending = s.pending := by
  rcases s.arrive_cases o with h | ⟨c, -, -, -, h⟩
  · simp [h]
  · rcases s.captureClaim_cases o.source c with ⟨-, h'⟩ | ⟨-, t, rfl, h' | h'⟩ <;> simp [h, h']

/-! ### Protection and outputs -/

/-- Everything an evaluation of the STOP active condition can do: write it, or, on a turn to active, make the hold claim and send the
occurrence. -/
theorem State.evaluateStop_cases (s : State) :
    (s.stopCondition = true ∧ s.protection.stopActive = false ∧
      s.evaluateStop =
        { s with
          protection := { s.protection with stopActive := true }
          output := { s.output with causes := { s.output.causes with stop := true }, mode := .safeHeld }
          event := { s.event with arriving := s.event.arriving ++ [{ occurrence := .stop, age := 0 }] } }) ∨
    ((s.stopCondition = false ∨ s.protection.stopActive = true) ∧
      s.evaluateStop = { s with protection := { s.protection with stopActive := s.stopCondition } }) := by
  cases h : s.stopCondition <;> cases h' : s.protection.stopActive <;>
    simp [State.evaluateStop, h, h', State.holdClaim, HoldCauses.add, State.raise]

/-! ### Input channels -/

theorem EdgeSelect.matchesEdge_iff (e : EdgeSelect) (rising : Bool) :
    e.matchesEdge rising = true ↔ e = .both ∨ (e = .rise ∧ rising = true) ∨ (e = .fall ∧ rising = false) := by
  cases e <;> cases rising <;> simp [EdgeSelect.matchesEdge]

/-- A report changes only what is on its way to the event unit and to the timer unit. -/
theorem State.report_frame (s : State) (n : Fin 32) :
    (s.report n).held = s.held ∧ (s.report n).input = s.input ∧ (s.report n).event.sources = s.event.sources ∧
      (s.report n).timer.timeBase = s.timer.timeBase ∧ (s.report n).timer.timers = s.timer.timers ∧
      (s.report n).capture = s.capture ∧ (s.report n).delivery = s.delivery ∧
      (s.report n).protection = s.protection ∧ (s.report n).output = s.output ∧ (s.report n).link = s.link ∧
      (s.report n).command = s.command ∧ (s.report n).choices = s.choices ∧ (s.report n).pending = s.pending := by
  unfold State.report
  dsimp only
  split <;> simp

/-- So do the reports of any number of acceptances. -/
theorem State.foldl_report_frame (list : List (Fin 32)) (s : State) :
    (list.foldl State.report s).held = s.held ∧ (list.foldl State.report s).input = s.input ∧
      (list.foldl State.report s).event.sources = s.event.sources ∧
      (list.foldl State.report s).timer.timeBase = s.timer.timeBase ∧
      (list.foldl State.report s).timer.timers = s.timer.timers ∧
      (list.foldl State.report s).capture = s.capture ∧ (list.foldl State.report s).delivery = s.delivery ∧
      (list.foldl State.report s).protection = s.protection ∧ (list.foldl State.report s).output = s.output ∧
      (list.foldl State.report s).link = s.link ∧ (list.foldl State.report s).command = s.command ∧
      (list.foldl State.report s).choices = s.choices ∧ (list.foldl State.report s).pending = s.pending := by
  induction list generalizing s with
  | nil => simp
  | cons n rest ih =>
    have h := ih (s.report n)
    have h' := s.report_frame n
    simp_all

/-! ### Delivery -/

/-- An offer changes the event unit (one account), the delivery unit and the notice slot, and nothing else. -/
theorem State.offer_frame (s : State) (n : Fin 42) (a : Account) :
    (s.offer n a).held = s.held ∧ (s.offer n a).input = s.input ∧ (s.offer n a).timer = s.timer ∧
      (s.offer n a).event.arriving = s.event.arriving ∧ (s.offer n a).capture = s.capture ∧
      (s.offer n a).protection = s.protection ∧ (s.offer n a).output = s.output ∧ (s.offer n a).command = s.command ∧
      (s.offer n a).choices = s.choices ∧ (s.offer n a).pending = s.pending := by
  simp [State.offer]

/-- A cancelled notice leaves the slot empty when it is the one named, and everything else of the link as it is. -/
theorem LinkUnit.cancelNotice_eq (l : LinkUnit) (notice : Byte) :
    l.cancelNotice notice = { l with noticeSlot := l.noticeSlot.filter fun x => decide (x.notice ≠ notice) } := by
  obtain ⟨rate, line, frame, buffer, gap, intake, notes, slot, sending⟩ := l
  cases slot with
  | none => rfl
  | some e => by_cases h : e.notice = notice <;> simp [LinkUnit.cancelNotice, Option.filter, h]

/-- The next notice number: the first after `c` that is not held, as long as fewer than `fuel` are held in a row. -/
theorem nextFree_spec (held : List Byte) (c : Byte) (fuel : Nat)
    (h : ∃ k, 1 ≤ k ∧ k ≤ fuel + 1 ∧ c + BitVec.ofNat 8 k ∉ held) :
    ∃ k, 1 ≤ k ∧ k ≤ fuel + 1 ∧ nextFree held c fuel = c + BitVec.ofNat 8 k ∧ nextFree held c fuel ∉ held ∧
      ∀ j, 1 ≤ j → j < k → c + BitVec.ofNat 8 j ∈ held := by
  induction fuel generalizing c with
  | zero =>
    obtain ⟨k, h1, h2, h3⟩ := h
    obtain rfl : k = 1 := by omega
    exact ⟨1, le_rfl, le_rfl, rfl, h3, by omega⟩
  | succ fuel ih =>
    by_cases hc : (c + 1) ∈ held
    · obtain ⟨k, h1, h2, h3⟩ := h
      have hk : k ≠ 1 := by rintro rfl; exact h3 hc
      have shift : ∀ j, c + 1 + BitVec.ofNat 8 j = c + BitVec.ofNat 8 (j + 1) := by
        intro j; rw [Nat.add_comm j 1, BitVec.ofNat_add, BitVec.add_assoc]; rfl
      obtain ⟨m, m1, m2, m3, m4, m5⟩ := ih (c + 1) ⟨k - 1, by omega, by omega, by
        rw [shift, show k - 1 + 1 = k by omega]; exact h3⟩
      have e : nextFree held c (fuel + 1) = nextFree held (c + 1) fuel := if_pos hc
      refine ⟨m + 1, by omega, by omega, by rw [e, m3, shift], by rw [e]; exact m4, ?_⟩
      intro j j1 j2
      rcases Nat.eq_or_lt_of_le j1 with rfl | j1
      · exact hc
      · have := m5 (j - 1) (by omega) (by omega)
        rwa [shift, show j - 1 + 1 = j by omega] at this
    · have e : nextFree held c (fuel + 1) = c + 1 := if_neg hc
      exact ⟨1, le_rfl, by omega, e, e ▸ hc, by omega⟩

/-! ### The link -/

@[simp] theorem Notes.has_add (notes : Notes) (n m : Note) : (notes.add n).has m = (decide (m = n) || notes.has m) := by
  cases n <;> cases m <;> simp [Notes.add, Notes.has]

@[simp] theorem HoldCauses.has_add (causes : HoldCauses) (c d : HoldCause) :
    (causes.add c).has d = (decide (d = c) || causes.has d) := by
  cases c <;> cases d <;> simp [HoldCauses.add, HoldCauses.has]

/-- A hold cause added makes the set not empty. -/
theorem HoldCauses.add_ne_empty (causes : HoldCauses) (c : HoldCause) : causes.add c ≠ HoldCauses.empty := by
  cases c <;> simp [HoldCauses.add, HoldCauses.empty]

/-- The valid-frame signal changes only the silence timer, the delivery state and the notes set. -/
theorem State.validSignal_frame (s : State) :
    s.validSignal.held = s.held ∧ s.validSignal.input = s.input ∧ s.validSignal.timer = s.timer ∧
      s.validSignal.event = s.event ∧ s.validSignal.capture = s.capture ∧
      s.validSignal.delivery = { s.delivery with mode := .delivering } ∧
      s.validSignal.protection = { s.protection with silenceTimer := s.validSignal.protection.silenceTimer } ∧
      s.validSignal.output = s.output ∧ s.validSignal.link = { s.link with notes := s.validSignal.link.notes } ∧
      s.validSignal.command = s.command ∧ s.validSignal.choices = s.choices ∧ s.validSignal.pending = s.pending := by
  unfold State.validSignal
  rcases hp : s.protection with ⟨_, _, _, _, timeout, _⟩
  rcases hd : s.delivery with ⟨_, _, mode, _, _, _, _, _⟩
  cases mode <;> by_cases h : timeout = 0 <;> simp [h, hd, hp]

/-- Everything the disposal of a valid frame can do: nothing, the note OVERRUN, or the request in the empty slot. -/
theorem State.dispose_cases (s : State) (r : Request) :
    s.dispose r = s ∨
    (s.command.window = false ∧ s.link.intake ≠ none ∧
      s.dispose r = { s with link := { s.link with notes := s.link.notes.add .overrun } }) ∨
    (s.command.window = false ∧ s.link.intake = none ∧
      s.dispose r = { s with link := { s.link with intake := some r } }) := by
  unfold State.dispose
  cases hw : s.command.window
  · cases hi : s.link.intake with
    | some q => simp
    | none =>
      cases (s.command.logged? r.sequence).isSome && s.command.isWaiting r.sequence <;> simp
  · simp

/-! ### The block's own step -/

/-- Everything the block can do on an empty queue: let a microsecond pass, when no step of its own is due, or take one of its
possible steps, in both cases perhaps after a free choice. -/
theorem State.idle_cases (s : State) :
    ∃ u, (u = s ∨ u = { s with choices := s.choices + 1 }) ∧
      ((s.dueSteps = [] ∧ s.idle = .next u.tick) ∨
        ∃ i ∈ s.dueSteps ++ (if s.held then [] else s.arrivals false), s.idle = exec i u) := by
  unfold State.idle
  dsimp only
  split
  · rename_i h
    exact ⟨s, .inl rfl, .inl ⟨(List.append_eq_nil_iff.1 h).1, rfl⟩⟩
  · rename_i i _ _ h _
    exact ⟨s, .inl rfl, .inr ⟨i, by simp [h], rfl⟩⟩
  · refine ⟨_, .inr rfl, ?_⟩
    split
    · rename_i x hx
      exact .inr ⟨x, List.mem_of_getElem? hx, rfl⟩
    · rename_i hnot _ hx
      refine .inl ⟨?_, rfl⟩
      by_contra hdue
      rw [List.getElem?_eq_none_iff, if_neg hdue, Nat.add_zero] at hx
      have hpos : 0 < (s.dueSteps ++ (if s.held then [] else s.arrivals false)).length := by
        rw [List.length_append]
        have := List.length_pos_iff.2 hdue
        omega
      have := Nat.mod_lt (Config.freeChoice s.choices) hpos
      omega

/-- Everything a step can do: run the front command, or, with none, the block's own step. -/
theorem step_cases {s t : State} (h : step s = .next t) :
    (∃ i rest, s.pending = i :: rest ∧ exec i { s with pending := rest } = .next t) ∨
    (s.pending = [] ∧ ∃ u, (u = s ∨ u = { s with choices := s.choices + 1 }) ∧
      ((s.dueSteps = [] ∧ t = u.tick) ∨ ∃ i, exec i u = .next t)) := by
  unfold step at h
  split at h
  · rename_i i rest hp
    exact .inl ⟨i, rest, hp, h⟩
  · rename_i hp
    refine .inr ⟨hp, ?_⟩
    obtain ⟨u, hu, ⟨hd, h'⟩ | ⟨i, -, h'⟩⟩ := s.idle_cases
    · rw [h'] at h
      cases h
      exact ⟨u, hu, .inl ⟨hd, rfl⟩⟩
    · exact ⟨u, hu, .inr ⟨i, h' ▸ h⟩⟩

/-- What is due does not depend on the count of choices. -/
@[simp] theorem State.dueSteps_choices (s : State) (k : Nat) : { s with choices := k }.dueSteps = s.dueSteps := by
  have ha : { s with choices := k }.arbitrate?.isSome = s.arbitrate?.isSome := by
    simp only [State.arbitrate?]
    repeat' split
    all_goals rfl
  have hr : { s with choices := k }.replayed?.isSome = s.replayed?.isSome := by
    simp only [State.replayed?, State.standing?]
    repeat' split
    all_goals rfl
  simp only [State.dueSteps, State.commandSteps, ha, hr]
  rfl

/-- So an invariant of the units is kept by every step once it is kept by every command, and by the passing of a microsecond while
nothing is due, and does not look at the queue and the count of choices. -/
theorem step_keeps {P : State → Prop} (hq : ∀ s rest, P s → P { s with pending := rest })
    (hc : ∀ s k, P s → P { s with choices := k }) (ht : ∀ s, P s → s.dueSteps = [] → P s.tick)
    (he : ∀ i s t, P s → exec i s = .next t → P t) {s t : State} (hs : P s) (h : step s = .next t) : P t := by
  rcases step_cases h with ⟨i, rest, -, h⟩ | ⟨-, u, hu, h⟩
  · exact he i _ t (hq s rest hs) h
  · have hd : u.dueSteps = s.dueSteps := by rcases hu with rfl | rfl <;> simp
    have hP : P u := by rcases hu with rfl | rfl <;> [exact hs; exact hc s _ hs]
    rcases h with ⟨hn, rfl⟩ | ⟨i, h⟩
    · exact ht u hP (hd.trans hn)
    · exact he i u t hP h

end Sys2Proof.Machine
end

