-- ==== Sys2Proof/WellFormed.lean ====
section
/-! DEFINITION. Which commands name a part that exists: the numbering of file 00, 4.5. -/

namespace Sys2Proof

/-- The number a command carries is that of a channel (0 to 31), source (0 to 41) or timer (0 to 3). -/
def Instr.wellFormed : Instr → Bool
  | .inputPinChange channel _ => decide (channel < 32)
  | .qualificationEnd channel => decide (channel < 32)
  | .occurrenceArrival source => decide (source < 42)
  | .triggerArrival channel => decide (channel < 32)
  | .timerExpiry timer => decide (timer < 4)
  | .powerOn | .resetRelease _ _ _ _ | .stopPinChange _ | .stopQualificationEnd | .silenceExpiry
  | .makeOffer | .takeTimerExpiry | .characterReceived _ _ _ | .breakLimit | .gapLimit | .replay | .badKind
  | .arbiterChoice | .frameEnd | .ping | .setSource | .getSource | .maskList | .clearSource | .setDelivery
  | .readStack | .gate | .take | .done | .setInput | .readInputs | .setTimer | .getTimer | .setTime
  | .getTime | .setRing | .drainRing | .discardRing | .setOutputs | .holdOutputs | .releaseOutputs
  | .setSafe | .setStop | .setSilence | .restart | .startBit | .breakEnd => true

end Sys2Proof
end

