-- ==== Sys2Proof/Tests/Slice0.lean ====
section
/-! SUPPORT. Tests: the well-formedness checks, the spec's own examples (each test names its table), and, for every statement with
hypotheses, a state and operands that meet them, clause by clause, at the ends of the ranges. -/

namespace Sys2Proof.Tests

open Sys2Proof.Machine Sys2Proof.Safety Sys2Proof.Slice0

/-! ### Small states -/

/-- After a reset release with every pin high: nothing qualifies and STOP, which is active low, is not active. -/
def ready : State :=
  { State.reset with
    held := false
    input := { State.reset.input with stop := StopPin.reset true }
    link := { State.reset.link with line := .idle } }

/-- A request in the intake slot of a state. -/
def asked (s : State) (kind sequence : Byte) (payload : List Byte) : State :=
  { s with link := { s.link with intake := some { kind := kind, sequence := sequence, payload := payload } } }

/-- A request in the intake slot of the ready state, with sequence number 42. -/
def asking (kind : Byte) (payload : List Byte) : State := asked ready kind 42 payload

/-- The state after a command, if it answers one. -/
def after? (c : Instr) (s : State) : Option State :=
  match exec c s with
  | .next t => some t
  | .fault _ | .refused _ => none

/-- The answer that a command queues last. -/
def answerTo (c : Instr) (s : State) : Option Answer :=
  (after? c s).bind fun t => t.command.replyQueue.getLast?.map AnswerFrame.answer

/-- A taken entry of source `n` with this notice number. -/
def taken (n : Fin 42) (level : Level) (notice : Byte) : Entry :=
  { source := n, level := level, phase := .taken, notice := notice, savedGate := .opened, attempts := 1,
    account := latchAccount 0 none }

/-- The same entry, still OFFERED. -/
def offered (n : Fin 42) (level : Level) (notice : Byte) : Entry := { taken n level notice with phase := .offered }

/-- The ready state with a service stack, innermost entry first. -/
def stacked (stack : List Entry) : State := { ready with delivery := { ready.delivery with stack := stack } }

/-- The ready state with source `n` in this record, and this occurrence on its way. -/
def arriving (n : Fin 42) (r : SourceRecord) (o : Occurrence) : State :=
  { ready.setSource n r with event := { (ready.setSource n r).event with arriving := [{ occurrence := o, age := 0 }] } }

/-- An UNMASKED record in CAPTURE on ring 2. -/
def capturing (budget : Nat) : SourceRecord :=
  { mask := .unmasked, level := .level2, mode := .capture, ring := 2, budget := budget, account := none }

/-- The rise of channel 3 at time 10000. -/
def rise3 : Occurrence := .edge 3 true 10000 8

/-- A capture record of that rise. -/
def record (sequence : BitVec 16) : CaptureRecord :=
  { sequence := sequence, source := 3, kind := .rise, time := 10000, snapshot := none }

/-- The ready state with one channel so. -/
def channel5 (raw filtered : Bool) (code : Fin 8) (qualifying : Option Nat) : State :=
  ready.setChannel 5 { raw := raw, filtered := filtered, edge := .both, code := code, qualifying := qualifying }

/-- The ready state with the STOP pin and its filter code so. -/
def stopPinAt (raw filtered : Bool) (code : Fin 8) (qualifying : Option Nat) : State :=
  { ready with
    input := { ready.input with stop := { raw := raw, filtered := filtered, qualifying := qualifying } }
    protection := { ready.protection with stopCode := code } }

/-- The ready state with this link unit. -/
def linked (l : LinkUnit) : State := { ready with link := l }

/-- An account of this count, first and last time, and cause. -/
def account (count : Nat) (first : Time) (last : Option Time) (cause : Cause) : Account :=
  { count := count, cause := cause, first := first, last := last }

/-! ### Well-formedness -/

theorem test_channel_32_is_ill_formed : (Instr.inputPinChange 32 true).wellFormed = false := by decide
theorem test_qualification_32_is_ill_formed : (Instr.qualificationEnd 32).wellFormed = false := by decide
theorem test_source_42_is_ill_formed : (Instr.occurrenceArrival 42).wellFormed = false := by decide
theorem test_trigger_32_is_ill_formed : (Instr.triggerArrival 32).wellFormed = false := by decide
theorem test_timer_4_is_ill_formed : (Instr.timerExpiry 4).wellFormed = false := by decide
theorem test_last_numbers_are_well_formed :
    (Instr.inputPinChange 31 true).wellFormed ∧ (Instr.qualificationEnd 31).wellFormed ∧
      (Instr.occurrenceArrival 41).wellFormed ∧ (Instr.triggerArrival 31).wellFormed ∧ (Instr.timerExpiry 3).wellFormed := by
  decide
theorem test_no_word_spells_a_command : decodeTableWord 0 0 = none := rfl

/-! ### The spec's examples -/

/-- 8.2.1: the CRC register byte by byte, and the six characters of the PING. -/
theorem test_crc_worked_through :
    crcByte 0xFFFF 0x00 = 0xE1F0 ∧ crcByte 0xE1F0 0x01 = 0x0D2E ∧ crcByte 0x0D2E 0x01 = 0xEF8C ∧
      frameBytes 0x01 0x01 [] = [0xA6, 0x00, 0x01, 0x01, 0xEF, 0x8C] := by
  decide +kernel

/-- R34's table of the notice counter. -/
theorem test_notice_counter_table :
    nextNotice [0] 0 = 1 ∧ nextNotice [3, 5, 6] 6 = 7 ∧ nextNotice [7, 8, 6] 6 = 9 ∧ nextNotice [0, 1, 255] 255 = 2 := by
  decide

/-- R40's table of merged accounts. -/
theorem test_merge_table :
    mergeAccount (account 3 1000 (some 1800) .occurrence) none = account 3 1000 (some 1800) .occurrence ∧
    mergeAccount (account 1 5000 none .occurrence) (some (account 1 5400 none .occurrence)) =
      account 2 5000 (some 5400) .occurrence ∧
    mergeAccount (account 3 1000 (some 1800) .occurrence) (some (account 2 2500 (some 2900) .budgetEnd)) =
      account 5 1000 (some 2900) .budgetEnd ∧
    mergeAccount (account 1 700 none .ringFull) (some (account 4 900 (some 1300) .budgetEnd)) =
      account 5 700 (some 1300) .ringFull ∧
    mergeAccount (account 200 10 (some 90) .occurrence) (some (account 100 95 (some 400) .occurrence)) =
      account 255 10 (some 400) .occurrence := by
  decide

/-- R17's table, and the example of 9.7.1. -/
theorem test_set_source_table :
    [[42, 1, 1, 0, 0, 0], [7, 1, 4, 0, 0, 0], [7, 1, 1, 1, 2, 0], [37, 1, 1, 1, 2, 10], [41, 1, 0, 0, 0, 0],
        [37, 1, 1, 0, 2, 10], [7, 1, 1, 0, 0, 0]].map (fun p => answerTo .setSource (asking 0x02 p)) =
      [some (.refused 2 4 0), some (.refused 2 4 2), some (.refused 2 4 5), some (.refused 2 5 37), some (.refused 2 5 41),
        some (.reply 2 [37, 1, 1, 0, 2, 0]), some (.reply 2 [7, 1, 1, 0, 0, 0])] := by
  decide

/-- R20's table. -/
theorem test_mask_list_table :
    [[1, 3, 5, 5, 33], [1, 12, 40, 2], [1, 12, 40, 44], [1]].map (fun p => answerTo .maskList (asking 0x04 p)) =
      [some (.reply 4 [1, 3]), some (.refused 4 5 40), some (.refused 4 4 44), some (.refused 4 2 1)] := by
  decide

/-- R88's table. -/
theorem test_set_ring_table :
    [[4, 1, 10], [2, 1, 65], [2, 0, 0], [2, 1, 64]].map (fun p => answerTo .setRing (asking 0x11 p)) =
      [some (.refused 0x11 4 0), some (.refused 0x11 4 2), some (.reply 0x11 [2, 0, 0, 0, 0, 0]),
        some (.reply 0x11 [2, 1, 64, 0, 0, 0])] := by
  decide

/-- R105's table: the first two rows and the third. -/
theorem test_set_input_table :
    [[3, 3, 2, 7, 7, 19], [1, 8, 4], [2, 2, 5, 32, 40]].map (fun p => answerTo .setInput (asking 0x0B p)) =
      [some (.reply 0x0B [3, 3, 3]), some (.refused 0x0B 4 1), some (.refused 0x0B 4 32)] := by
  decide

/-- R119's table. -/
theorem test_set_timer_table :
    [[4, 1, 0, 10, 255], [1, 2, 0, 0, 255], [2, 3, 0, 50, 255], [2, 3, 0, 50, 32], [0, 0, 0, 0, 255], [3, 1, 0, 20, 7]].map
        (fun p => answerTo .setTimer (asking 0x0D p)) =
      [some (.refused 0x0D 4 0), some (.refused 0x0D 4 2), some (.refused 0x0D 4 4), some (.refused 0x0D 4 4),
        some (.reply 0x0D [0, 0, 0, 0, 0, 0, 0, 255]), some (.reply 0x0D [3, 1, 1, 0, 20, 0, 20, 255])] := by
  decide

/-- R122's table of remaining times. -/
theorem test_remaining_table :
    [5000, 4901, 4900, 37].map (fun left =>
      IntervalTimer.remainingUnits
        { mode := .repeating, phase := .running, period := 50, remaining := left, trigger := none }) = [50, 50, 49, 1] := by
  decide

/-- R155's two guards, and a wrong one. -/
theorem test_guard_examples :
    answerTo .setSafe (asked ready 0x17 17 [0xEE, 5]) = some (.reply 0x17 [5, 1]) ∧
      answerTo .setSafe (asked ready 0x17 200 [0x37, 5]) = some (.reply 0x17 [5, 1]) ∧
      answerTo .setSafe (asked ready 0x17 17 [0xED, 5]) = some (.refused 0x17 3 0xED) := by
  decide

/-- 4.8, step 1: the first record of source 3 carries 65534, and the counter goes on to 65535, the budget to 2. -/
theorem test_capture_example :
    ((after? (.occurrenceArrival 3)
        ((arriving 3 (capturing 3) rise3).setRingTo 2 { Ring.reset with counter := 65534 })).map fun t =>
      (t.ring 2, (t.source 3).budget)) = some ({ Ring.reset with records := [record 65534], counter := 65535 }, 2) := by
  decide

/-- R165 and R167: RESTART's REPLY carries no data, and the window opens. -/
theorem test_restart_opens_the_window :
    answerTo .restart (asking 0x1A [213]) = some (.reply 0x1A []) ∧
      (after? .restart (asking 0x1A [213])).map (·.command.window) = some true := by
  decide

/-- R59 and 10.1: a release with STOP low holds the outputs with START and STOP and makes source 40 pending. -/
theorem test_release_with_stop_active :
    ((after? (.resetRelease 1 0 false true) State.reset).map fun t =>
      (t.output.causes.code, (t.source 40).isPending, t.protection.stopActive)) = some (3, true, true) := by
  decide

/-- R108: the levels of channels 0 and 31 stand in the last and the first byte. -/
theorem test_levels_byte_order :
    answerTo .readInputs
        (asked ((ready.setChannel 0 (Channel.reset true)).setChannel 31 (Channel.reset true)) 0x0C 42 []) =
      some (.reply 0x0C [128, 0, 0, 1, 128, 0, 0, 1, 1, 1, 0]) := by
  decide

/-! ### Witnesses of the statements' hypotheses -/

theorem asked_stands {s : State} (kind sequence : Byte) (payload : List Byte) (h1 : s.held = false)
    (h2 : s.command.window = false) (h3 : s.command.replyQueue.length < 4) (h4 : ∀ e ∈ s.command.replyLog, e.sequence ≠ sequence) :
    Stands (asked s kind sequence payload) kind sequence payload :=
  ⟨h1, h2, rfl, h3, h4⟩

/-- Every request can stand in the slot of the ready state: the only hypothesis of the statements about SET DELIVERY, READ STACK, PING,
GET SOURCE, CLEAR SOURCE, READ INPUTS, SET TIME and GET TIME, SET RING and DISCARD RING, SET OUTPUTS and HOLD OUTPUTS, and, with
the guard 213 = 255 - 42, about RELEASE OUTPUTS, SET SAFE, SET SILENCE and RESTART. -/
theorem witness_a_request_stands (kind : Byte) (payload : List Byte) : Stands (asking kind payload) kind 42 payload :=
  asked_stands kind 42 payload rfl rfl (by decide) (by decide)

theorem witness_StepRunsTheFrontCommand :
    ({ ready with pending := [.makeOffer, .startBit] } : State).pending = .makeOffer :: [.startBit] := rfl

theorem witness_TimePassesWhileNothingIsDue :
    (ready.pending = [] ∧ ready.held = false ∧ ready.dueSteps = [] ∧ ready.event.arriving = [] ∧ ready.timer.arriving = []) ∧
    (let s := arriving 3 (SourceRecord.reset 3) rise3
     s.pending = [] ∧ s.held = false ∧ s.dueSteps = [] ∧ s.event.arriving ≠ []) ∧
    State.reset.pending = [] ∧ State.reset.held = true := by
  decide

/-- R149 and R27 together: a START notice waits and source 40 can be offered, and either step may be taken first. -/
theorem witness_DueStepsAreTakenBeforeTimePasses :
    ((after? (.resetRelease 1 0 false true) State.reset).map fun t => (t.pending, t.dueSteps)) =
      some ([], [.makeOffer, .arbiterChoice]) := by
  decide
/-- What makes each of these steps due, at the ends of its range. -/
theorem test_due_steps_at_the_edges :
    (channel5 true false 3 (some 100)).dueSteps = [.qualificationEnd 5] ∧ (channel5 true false 3 (some 99)).dueSteps = [] ∧
      (stopPinAt false true 3 (some 100)).dueSteps = [.stopQualificationEnd] ∧
      (asking 0x1A [213]).dueSteps = [.restart] ∧ (asking 0x1B []).dueSteps = [.badKind] ∧ (asking 0 []).dueSteps = [.badKind] ∧
      (linked { ready.link with frame := .assembling, buffer := [0xA6], gap := 1650000 }).dueSteps = [.gapLimit] ∧
      (linked { ready.link with line := .inCharacter 165000 }).dueSteps = [.breakLimit] := by
  decide

/-- A state in use: source 5 OFFERED above source 9, its notice waiting, two records in ring 2, timer 0 running, channel 5 qualifying,
a frame begun, an answer logged, a command waiting. It meets the invariants that `StepKeeps…` assume. -/
def inUse : State :=
  let s := ((channel5 true false 3 (some 20)).setIntervalTimer 0
      { mode := .repeating, phase := .running, period := 50, remaining := 5000, trigger := none }).setRingTo 2
        { Ring.reset with records := [record 65535, record 0], counter := 1 }
  { s with
    delivery := { s.delivery with
      stack := [{ offered 5 .level1 1 with savedGate := .opened }, taken 9 .level3 0], noticeCounter := 2 }
    link := { s.link with
      frame := .assembling, buffer := [0xA6, 80], noticeSlot := some ((offered 5 .level1 1).event 2) }
    command := { s.command with replyLog := [{ sequence := 3, answer := .reply 1 [] }] }
    pending := [.startBit] }

theorem witness_invariants_of_the_units :
    OutputsSound inUse ∧ InputsSound inUse ∧ RingsSound inUse ∧ TimersSound inUse ∧ ReceiverSound inUse ∧ RepliesSound inUse ∧
      WindowSound inUse ∧ TransitSound inUse ∧ HeldSound State.reset := by
  refine ⟨?_, ?_, ?_, ?_, ?_, ?_, ?_, ?_, ?_⟩ <;> decide
theorem witness_invariants_of_delivery :
    StopSound inUse ∧ SourcesSound inUse ∧ StackSound inUse ∧ OfferSound inUse ∧ NoticesSound inUse ∧ NoticeSlotSound inUse := by
  refine ⟨?_, ?_, ?_, ?_, ?_, ?_⟩ <;> decide
/-- From such states a step does answer. -/
theorem witness_a_step_answers :
    (∃ t, step inUse = .next t) ∧ (∃ t, step State.reset = .next t) :=
  ⟨⟨_, rfl⟩, ⟨_, rfl⟩⟩

theorem witness_OnlyReleaseOutputsEndsTheHold :
    (asking 0x16 [213, 15]).output.mode = .safeHeld ∧
      ∃ t, Gives .releaseOutputs (asking 0x16 [213, 15]) t ∧ t.output.mode = .live :=
  ⟨rfl, _, rfl, rfl⟩

theorem witness_EveryFrameSentWholeIsReceived :
    ready.held = false ∧ ready.link.line = .idle ∧ ready.link.frame = .hunting ∧ (List.replicate 80 (0 : Byte)).length ≤ 80 := by
  decide

theorem witness_ResetReleaseSamplesAndChecksStop :
    State.reset.held = true ∧ (State.reset.protection.stopEnable = true ∧ false = State.reset.protection.stopActiveLevel) ∧
      ¬ (State.reset.protection.stopEnable = true ∧ true = State.reset.protection.stopActiveLevel) := by
  decide

theorem witness_PinChangeStartsCancelsOrAccepts :
    let back := channel5 true false 3 (some 20)
    let starts := channel5 false false 7 none
    let atOnce := channel5 false false 0 none
    back.held = false ∧ (back.channel 5).raw ≠ false ∧ false = (back.channel 5).filtered ∧
      (starts.channel 5).raw ≠ true ∧ true ≠ (starts.channel 5).filtered ∧ (starts.channel 5).code ≠ 0 ∧
      (starts.channel 5).qualifying = none ∧
      (atOnce.channel 5).raw ≠ true ∧ true ≠ (atOnce.channel 5).filtered ∧ (atOnce.channel 5).code = 0 ∧
      State.reset.held = true ∧ (State.reset.channel 5).raw ≠ true ∧ (back.channel 5).raw = true := by
  decide

theorem witness_QualificationEndAcceptsTheChange :
    let due := channel5 true false 3 (some 100)
    let early := channel5 true false 3 (some 99)
    due.held = false ∧ (due.channel 5).qualifying = some 100 ∧ (due.channel 5).raw ≠ (due.channel 5).filtered ∧
      filterTime (due.channel 5).code ≤ 100 ∧ (early.channel 5).qualifying = some 99 ∧
      (early.channel 5).raw ≠ (early.channel 5).filtered ∧ 99 < filterTime (early.channel 5).code := by
  decide

theorem witness_StopPinIsQualifiedAndEvaluated :
    let back := stopPinAt false true 3 (some 20)
    let starts := stopPinAt true true 3 none
    let atOnce := stopPinAt true true 0 none
    let due := stopPinAt false true 3 (some 100)
    (back.held = false ∧ back.input.stop.raw ≠ true ∧ true = back.input.stop.filtered) ∧
    (starts.input.stop.raw ≠ false ∧ false ≠ starts.input.stop.filtered ∧ starts.protection.stopCode ≠ 0 ∧
      starts.input.stop.qualifying = none) ∧
    (atOnce.input.stop.raw ≠ false ∧ false ≠ atOnce.input.stop.filtered ∧ atOnce.protection.stopCode = 0) ∧
    (due.input.stop.qualifying = some 100 ∧ due.input.stop.raw ≠ due.input.stop.filtered ∧
      filterTime due.protection.stopCode ≤ 100) ∧
    (back.input.stop.qualifying = some 20 ∧ 20 < filterTime back.protection.stopCode) ∧
    (State.reset.held = true ∧ State.reset.input.stop.raw ≠ true ∧ State.reset.input.stop.raw = false) := by
  decide

theorem witness_ArrivingOccurrenceLatches :
    (let s := arriving 3 (SourceRecord.reset 3) rise3
     s.held = false ∧ s.event.arriving = [] ++ { occurrence := rise3, age := 0 } :: [] ∧
       (s.source rise3.source).mask = .masked ∧ (s.source rise3.source).mode = .report) ∧
    36 ≤ (Occurrence.crossing 0 0).source.val ∧ 36 ≤ Occurrence.silence.source.val := by
  decide

theorem witness_CaptureClaimAppendsOrEscalates :
    let room := (arriving 3 (capturing 1) rise3).setRingTo 2
      { Ring.reset with records := List.replicate 63 (record 0), watermark := 64 }
    let more := arriving 3 (capturing 2) rise3
    let full := (arriving 3 (capturing 1) rise3).setRingTo 2 { Ring.reset with records := List.replicate 64 (record 0) }
    room.held = false ∧ room.event.arriving = [] ++ { occurrence := rise3, age := 0 } :: [] ∧
      rise3.claim? = some { kind := .rise, time := 10000, levels := some 8 } ∧
      (room.source rise3.source).mask = .unmasked ∧ (room.source rise3.source).mode = .capture ∧
      (room.source rise3.source).budget = 1 ∧ (room.ring (room.source rise3.source).ring).records.length < 64 ∧
      2 ≤ (more.source rise3.source).budget ∧ (full.ring (full.source rise3.source).ring).records.length = 64 := by
  decide

theorem witness_TriggerStartsItsTimers :
    let timer : IntervalTimer := { mode := .onTrigger, phase := .waiting, period := 50, remaining := 0, trigger := some 7 }
    let s := { ready.setIntervalTimer 0 timer with
      timer := { (ready.setIntervalTimer 0 timer).timer with arriving := [{ channel := 7, age := 1 }] } }
    s.held = false ∧ s.timer.arriving = [] ++ { channel := 7, age := 1 } :: [] ∧
      ((s.intervalTimer 0).mode = .onTrigger ∧ (s.intervalTimer 0).trigger = some 7) ∧
      ¬ ((s.intervalTimer 1).mode = .onTrigger ∧ (s.intervalTimer 1).trigger = some 7) := by
  decide

theorem witness_TimerAndSilenceExpiriesSendTheirOccurrences_timer :
    let at_ (mode : TimerMode) (left : Nat) : IntervalTimer :=
      { mode := mode, phase := .running, period := 50, remaining := left, trigger := none }
    ∀ mode ∈ [TimerMode.once, .repeating, .onTrigger],
      let s := ready.setIntervalTimer 3 (at_ mode 0)
      let early := ready.setIntervalTimer 3 (at_ mode 1)
      s.held = false ∧ (s.intervalTimer 3).phase = .running ∧ (s.intervalTimer 3).remaining = 0 ∧
        (s.intervalTimer 3).mode ≠ .off ∧ (early.intervalTimer 3).phase = .running ∧
        (early.intervalTimer 3).remaining ≠ 0 := by
  decide

theorem witness_TimerAndSilenceExpiriesSendTheirOccurrences_silence :
    let s : State := { ready with protection := { ready.protection with silenceTimer := some 0 } }
    s.held = false ∧ s.protection.silenceTimer = some 0 := by
  decide

/-- Source `n` pending with this record's settings, the gate OPEN, on this stack. -/
def pendingOn (n : Fin 42) (r : SourceRecord) (stack : List Entry) : State :=
  let s := (stacked stack).setSource n { r with account := some (latchAccount 0 none) }
  { s with delivery := { s.delivery with gate := .opened } }

theorem witness_MakeOfferOffersTheChosenSource_stop :
    let s := pendingOn 40 (SourceRecord.reset 40) [taken 41 .urgent 7]
    SlotFree s ∧ IsChosen s 40 ∧ (s.source 40).account = some (latchAccount 0 none) :=
  ⟨by decide, .inl (by decide), by decide⟩
theorem witness_MakeOfferOffersTheChosenSource_silence :
    let s := pendingOn 41 (SourceRecord.reset 41) [taken 5 .level0 7]
    SlotFree s ∧ IsChosen s 41 ∧ (s.source 41).account = some (latchAccount 0 none) :=
  ⟨by decide, .inr (.inl (by decide)), by decide⟩
theorem witness_MakeOfferOffersTheChosenSource_maskable :
    let s := pendingOn 3 { SourceRecord.reset 3 with mask := .unmasked, level := .level2 } [taken 5 .level3 7]
    SlotFree s ∧ IsChosen s 3 ∧ (s.source 3).account = some (latchAccount 0 none) ∧ s.delivery.stack.length ≤ 8 :=
  ⟨by decide, .inr (.inr ⟨by decide, by decide, by decide, by decide⟩), by decide, by decide⟩
theorem witness_NoOffer :
    ({ ready with delivery := { ready.delivery with mode := .suspended } } : State).delivery.mode = .suspended ∧
    ({ ready with command := { ready.command with window := true } } : State).command.window = true ∧
    (∃ e ∈ (stacked [offered 5 .level1 1]).delivery.stack, e.phase = .offered) ∧
    (¬ StopCandidate ready ∧ ¬ SilenceCandidate ready ∧ ∀ n, ¬ MaskableCandidate ready n) := by
  decide

theorem witness_TakeTimerExpiryResendsOrWithdraws :
    let s (attempts : Nat) : State :=
      { ready with
        delivery := { ready.delivery with
          stack := [{ offered 5 .level1 1 with attempts := attempts }], takeTimer := some 0 } }
    (s 3).held = false ∧ (s 3).command.window = false ∧ (s 3).delivery.takeTimer = some 0 ∧
      3 < (s 3).delivery.retryLimit + 1 ∧ (s 4).delivery.retryLimit + 1 ≤ 4 := by
  decide

theorem witness_TakeAnswersFirstAgainOrStale :
    let s := asked (stacked [offered 5 .level1 1, taken 9 .level3 0]) 0x09
    Stands (s 42 [1]) 0x09 42 [1] ∧ (s 42 [1]).delivery.stack.head? = some (offered 5 .level1 1) ∧
      (offered 5 .level1 1).notice = 1 ∧
      Stands (s 42 [0]) 0x09 42 [0] ∧ taken 9 .level3 0 ∈ (s 42 [0]).delivery.stack ∧
      ((s 42 [0]).delivery.stack.map Entry.notice).Nodup ∧
      Stands (s 42 [2]) 0x09 42 [2] ∧ ∀ e ∈ (s 42 [2]).delivery.stack, e.notice ≠ 2 := by
  decide

theorem witness_DoneRemovesTheInnermostEntry :
    let s := fun stack source => asked (stacked stack) 0x0A 42 [source]
    Stands (s [taken 5 .level1 1] 5) 0x0A 42 [5] ∧ (taken 5 .level1 1).source.val = (5 : Byte).toNat ∧
      Stands (s [offered 5 .level1 1] 5) 0x0A 42 [5] ∧ (offered 5 .level1 1).phase = .offered ∧
      Stands (s [offered 5 .level1 1, taken 9 .level3 0] 9) 0x0A 42 [9] ∧
      (∃ x ∈ [taken 9 .level3 0], x.source.val = (9 : Byte).toNat) ∧
      Stands (s [taken 5 .level1 1] 41) 0x0A 42 [41] ∧
      (∀ e ∈ (s [taken 5 .level1 1] 41).delivery.stack, e.source.val ≠ (41 : Byte).toNat) ∧
      Stands (s [taken 5 .level1 1] 42) 0x0A 42 [42] ∧ 41 < (42 : Byte).toNat := by
  decide

theorem witness_GateTakesTheRequestedValue :
    let s := fun stack value => asked (stacked stack) 0x08 42 [value]
    Stands (s [] 2) 0x08 42 [2] ∧ 1 < (2 : Byte).toNat ∧
      Stands (s [offered 5 .level1 1] 1) 0x08 42 [1] ∧
      (∀ x ∈ (s [offered 5 .level1 1] 1).delivery.stack, x.phase = .offered → x = offered 5 .level1 1) ∧
      Stands (s [taken 5 .level1 1] 1) 0x08 42 [1] ∧ ∀ e ∈ (s [taken 5 .level1 1] 1).delivery.stack, e.phase = .taken := by
  decide

/-- The clauses of SET DELIVERY and READ STACK, in order. -/
theorem test_set_delivery_and_read_stack :
    [[0, 3, 0], [1, 8, 0], [1, 7, 2], [255, 7, 1]].map (fun p => answerTo .setDelivery (asking 0x06 p)) =
      [some (.refused 6 4 0), some (.refused 6 4 1), some (.refused 6 4 2), some (.reply 6 [255, 7, 1])] ∧
    answerTo .readStack (asked (stacked [offered 5 .level1 1, taken 9 .level3 0]) 7 42 []) =
      some (.reply 7 [0, 0, 25, 3, 0, 0, 2, 9, 3, 2, 0, 1, 1, 5, 1, 1, 1, 1, 1]) := by
  decide

theorem witness_LineStepsOfTheReceiver :
    let s := fun frame line gap => linked { ready.link with frame := frame, line := line, gap := gap }
    ready.held = false ∧ ready.link.line = .idle ∧ (s .hunting .waitingHigh 0).link.line = .waitingHigh ∧
      (s .hunting (.inCharacter 165000) 0).link.line = .inCharacter 165000 ∧
      2 * characterUnits (s .assembling (.inCharacter 165000) 0).link.rate ≤ 165000 ∧
      (s .assembling .idle 1650000).link.frame = .assembling ∧
      20 * characterUnits (s .assembling .idle 1650000).link.rate ≤ (s .assembling .idle 1650000).link.gap := by
  decide

theorem witness_CharactersAreTakenIgnoredOrDiscardTheFrame :
    let s := fun frame buffer => linked { ready.link with frame := frame, buffer := buffer, line := .inCharacter 0 }
    (s .hunting []).held = false ∧ (s .hunting []).link.line = .inCharacter 0 ∧ false = oddOnes 0xA6 ∧
      true ≠ oddOnes 0xA6 ∧ (s .assembling [0xA6]).link.buffer.length = 1 ∧ true = oddOnes 81 ∧ 80 < (81 : Byte).toNat ∧
      (s .assembling [0xA6, 0, 1, 1, 0xEF]).link.buffer = [0xA6, 0, 1, 1] ++ [] ++ [0xEF] ∧
      ([] : List Byte).length = (0 : Byte).toNat ∧ [0xEF, 0x8D] ≠ bytes16 (crcOf ([0, 1, 1] ++ [])) ∧
      false = oddOnes 0x8D ∧ false = oddOnes 80 ∧ (80 : Byte).toNat ≤ 80 ∧
      ∀ length ∈ (s .assembling [0xA6]).link.buffer[1]?, (s .assembling [0xA6]).link.buffer.length + 1 ≠ length.toNat + 6 := by
  decide +kernel

theorem witness_ValidFrameSignalsAndIsDisposedOf :
    let s := linked { ready.link with frame := .assembling, buffer := [0xA6, 0, 1, 1, 0xEF], line := .inCharacter 0 }
    s.held = false ∧ s.link.line = .inCharacter 0 ∧ s.link.frame = .assembling ∧
      s.link.buffer = [0xA6, 0, 1, 1] ++ [] ++ [0xEF] ∧ ([] : List Byte).length = (0 : Byte).toNat ∧
      [0xEF, 0x8C] = bytes16 (crcOf ([0, 1, 1] ++ [])) := by
  decide +kernel

/-- What the three places of a frame hold in the witnesses of the transmitter. -/
def startNotice : StartNotice := { cause := .power, outputState := .safeHeld, causes := HoldCauses.empty, stopActive := false }
def answerFrame (kind : Byte) : AnswerFrame := { sequence := 42, answer := .reply kind [], notes := Notes.empty }
def eventNotice : EventNotice := (offered 5 .level1 1).event 1

/-- The ready state sending this frame, with this stack and time gone by. -/
def sendingOf (f : OutFrame) (stack : List Entry) (elapsed : Nat) : State :=
  { stacked stack with link := { ready.link with sending := some { frame := f, elapsed := elapsed } } }

theorem witness_ArbiterServesStartThenRepliesThenEvents :
    let s := fun start queue =>
      { linked { ready.link with noticeSlot := some eventNotice } with
        command := { ready.command with startNotice := start, replyQueue := queue } }
    (s none []).held = false ∧ (s none []).link.sending = none ∧
      (s (some startNotice) [answerFrame 1]).command.startNotice = some startNotice ∧
      (s none [answerFrame 1]).command.replyQueue = answerFrame 1 :: [] ∧ (s none []).command.startNotice = none ∧
      (s none []).link.noticeSlot = some eventNotice := by
  decide

/-- The first and the last bit of the first and the last character of a frame, and the moment after it. -/
theorem witness_TxdSendsTheFrameBitByBit :
    let s := fun elapsed => sendingOf (.answer (answerFrame 1)) [] elapsed
    let bytes := (OutFrame.answer (answerFrame 1)).bytes
    (ready.link.sending = none) ∧ bytes[0]? = some 0xA6 ∧ bytes.length = 8 ∧
      (s 0).txd = false ∧ (s 82499).txd = true ∧ (s (7 * 82500)).txd = false ∧ (s 660000).txd = true ∧
      (11 * 0 + 0) * bitUnits (s 0).link.rate ≤ 0 ∧ 82499 < (11 * 0 + 10 + 1) * bitUnits (s 0).link.rate ∧
      ((OutFrame.answer (answerFrame 1)).payload.length + 6) * characterUnits (s 0).link.rate ≤ 660000 := by
  decide +kernel
/-- 9.7.1: the payloads of the REFUSED and of the REPLY, and R133's parity: 8Ch holds three ones. -/
theorem test_payloads_and_bits :
    (OutFrame.answer { sequence := 42, answer := .refused 2 4 2, notes := Notes.empty }).payload = [2, 4, 2, 0] ∧
      (OutFrame.answer { sequence := 43, answer := .reply 2 [7, 1, 1, 0, 0, 0], notes := Notes.empty }).payload =
        [2, 0, 7, 1, 1, 0, 0, 0] ∧
      (List.range 11).map (characterBit 0x8C) =
        [false, false, false, true, true, false, false, false, true, true, true] := by
  decide

theorem witness_EventEndStartsTheTakeTimer :
    let s := fun f stack elapsed => sendingOf f stack elapsed
    (s (.event eventNotice) [offered 5 .level1 1] 1402500).held = false ∧
      ((OutFrame.event eventNotice).payload.length + 6) * characterUnits ready.link.rate = 1402500 ∧
      (offered 5 .level1 1).notice = eventNotice.notice ∧
      (s (.event eventNotice) [offered 5 .level1 1] 1402500).command.window = false ∧
      (s (.event eventNotice) [offered 5 .level1 1] 1402500).link.noticeSlot = none ∧
      (∀ e ∈ (s (.event eventNotice) [taken 5 .level1 1] 1402500).delivery.stack,
        ¬ (e.phase = .offered ∧ e.notice = eventNotice.notice)) ∧
      ((OutFrame.answer (answerFrame 1)).payload.length + 6) * characterUnits ready.link.rate ≤ 660000 ∧
      ((OutFrame.start startNotice).payload.length + 6) * characterUnits ready.link.rate ≤ 907500 := by
  decide
theorem witness_an_answer_other_than_restart : ∀ data, (answerFrame 1).answer ≠ .reply 0x1A data := by
  intro data h
  injection h with h _
  exact absurd h (by decide)

theorem witness_RestartTakesPlaceAtTheEndOfItsReply :
    let s := sendingOf (.answer (answerFrame 0x1A)) [] 660000
    s.held = false ∧ s.link.sending = some { frame := .answer (answerFrame 0x1A), elapsed := 660000 } ∧
      (answerFrame 0x1A).answer = .reply 0x1A [] ∧
      ((OutFrame.answer (answerFrame 0x1A)).payload.length + 6) * characterUnits s.link.rate ≤ 660000 := by
  decide

theorem witness_DuplicatesAreDiscardedOrReplayed :
    let s := fun queue =>
      { asking 0x01 [] with
        command := { ready.command with replyQueue := queue, replyLog := [{ sequence := 42, answer := .reply 1 [] }] } }
    (s []).held = false ∧ (s []).command.window = false ∧
      (s []).link.intake = some { kind := 1, sequence := 42, payload := [] } ∧
      { sequence := 42, answer := .reply 1 [] } ∈ (s []).command.replyLog ∧
      ((s []).command.replyLog.map LogEntry.sequence).Nodup ∧
      (∃ f ∈ (s [answerFrame 1]).command.replyQueue, f.sequence = 42) ∧
      (∀ f ∈ (s []).command.replyQueue, f.sequence ≠ 42) ∧ (s []).command.replyQueue.length < 4 := by
  decide

/-- R154 at its edges: kinds 0 and 1Bh, and the payload lengths next to those of MASK LIST and SET INPUT. -/
theorem test_kind_and_length_at_the_edges :
    [0x00, 0x1B, 0x80, 0xFF].map (fun k => answerTo .badKind (asking k [1])) =
      [some (.refused 0 1 0), some (.refused 0x1B 1 0), some (.refused 0x80 1 0), some (.refused 0xFF 1 0)] ∧
    answerTo .maskList (asking 4 (1 :: List.replicate 41 3)) = some (.refused 4 2 42) ∧
    answerTo .setInput (asking 0x0B (0 :: 0 :: List.replicate 33 3)) = some (.refused 0x0B 2 35) := by
  decide

theorem witness_KindAndLengthAreCheckedFirst :
    (Instr.maskList, (0x04 : Byte), (List.range 40).map (· + 2)) ∈ requestTable ∧ 41 ∈ (List.range 40).map (· + 2) ∧
      42 ∉ (List.range 40).map (· + 2) ∧ Stands (asking 4 (1 :: List.replicate 40 3)) 4 42 (1 :: List.replicate 40 3) := by
  decide

theorem witness_TheGuardIsCheckedBeforeTheFields :
    (Instr.setStop, (0x18 : Byte), 4) ∈ guardedTable ∧ Stands (asking 0x18 [0, 9, 9, 9]) 0x18 42 [0, 9, 9, 9] ∧
      ([9, 9, 9] : List Byte).length + 1 = 4 ∧ (0 : Byte).toNat ≠ 255 - (42 : Byte).toNat ∧
      Stands (asking 0x18 []) 0x18 42 [] ∧ (213 : Byte).toNat = 255 - (42 : Byte).toNat := by
  decide

/-- PING and GET SOURCE of the state in use. -/
theorem test_ping_and_get_source :
    answerTo .ping (asked inUse 1 42 []) = some (.reply 1 [2, 1, 0, 0, 2, 1, 0, 1, 1]) ∧
    answerTo .getSource (asked inUse 3 42 [5]) = some (.reply 3 [5, 0, 3, 0, 0, 0, 0, 0, 1]) ∧
    answerTo .getSource (asked inUse 3 42 [42]) = some (.refused 3 4 0) := by
  decide

theorem witness_SetSourceChecksAndWrites :
    setSourceRefusal 42 1 1 0 0 0 = some (4, 0) ∧ setSourceRefusal 35 1 3 1 3 1 = none ∧
      setSourceRefusal 36 1 3 1 3 1 = some (5, 36) ∧ setSourceRefusal 40 0 0 0 0 0 = some (5, 40) := by
  decide

theorem witness_MaskListSetsTheListedMasks :
    ([12, 41, 42] : List Byte) = [12, 41] ++ 42 :: [] ∧ (∀ x ∈ ([12, 41] : List Byte), x.toNat ≤ 41) ∧ 41 < (42 : Byte).toNat ∧
      ([39, 40] : List Byte) = [39] ++ 40 :: [] ∧ (∀ x ∈ ([39, 40] : List Byte), x.toNat ≤ 41) ∧
      (∀ x ∈ ([39] : List Byte), x.toNat < 40) ∧ 40 ≤ (40 : Byte).toNat ∧ 1 < (2 : Byte).toNat ∧
      (List.replicate 41 (3 : Byte)).length = 41 ∧ ([0, 39] : List Byte) ≠ [] := by
  decide

/-- CLEAR SOURCE of a pending source, and of none. -/
theorem test_clear_source :
    answerTo .clearSource (asked (pendingOn 41 (SourceRecord.reset 41) []) 5 42 [41]) = some (.reply 5 [41, 1]) ∧
      answerTo .clearSource (asking 5 [42]) = some (.refused 5 4 0) := by
  decide

theorem witness_SetInputConfiguresTheListedChannels :
    ([31, 32] : List Byte) = [31] ++ 32 :: [] ∧ (∀ x ∈ ([31] : List Byte), x.toNat ≤ 31) ∧ 31 < (32 : Byte).toNat ∧
      3 < (4 : Byte).toNat ∧ 7 < (8 : Byte).toNat ∧ (List.replicate 33 (3 : Byte)).length = 33 ∧
      Reported (channel5 true false 3 (some 20)) (channel5 true true 0 none) 3 0 [5] 5 := by
  decide
/-- R98 and R106: to code 0 a qualification in progress is accepted in the step, and reported. -/
theorem test_set_input_to_code_0_accepts :
    ((after? .setInput (asked (channel5 true false 3 (some 20)) 0x0B 42 [3, 0, 5])).map fun t =>
      ((t.channel 5).filtered, t.event.arriving.length, t.timer.arriving.length)) = some (true, 1, 1) := by
  decide

theorem witness_SetTimerChecksAndStarts :
    setTimerRefusal 4 1 0 10 255 = some (4, 0) ∧ setTimerRefusal 3 4 0 10 255 = some (4, 1) ∧
      setTimerRefusal 3 3 0 1 31 = none ∧ setTimerRefusal 3 3 0 1 32 = some (4, 4) ∧ setTimerRefusal 0 0 0 0 255 = none := by
  decide

theorem witness_GetTimerReportsTheTimer :
    3 < (4 : Byte).toNat ∧ ((3 : Fin 4).val = (3 : Byte).toNat) ∧ (inUse.intervalTimer 0).phase = .running ∧
      0 < (inUse.intervalTimer 0).remaining ∧ (inUse.intervalTimer 1).phase ≠ .running := by
  decide

/-- SET TIME answers with the old value, GET TIME with the value. -/
theorem test_time :
    let s := { ready with timer := { ready.timer with timeBase := 0x01020304 } }
    answerTo .setTime (asked s 0x0F 42 [255, 254, 253, 252]) = some (.reply 0x0F [1, 2, 3, 4]) ∧
      (after? .setTime (asked s 0x0F 42 [255, 254, 253, 252])).map (·.timer.timeBase) = some 0xFFFEFDFC ∧
      answerTo .getTime (asked s 0x10 42 []) = some (.reply 0x10 [1, 2, 3, 4]) := by
  decide

/-- R91's table, second row, in a ring of two: one drained, one kept; and a DISCARD of the two. -/
theorem test_rings_drained_and_discarded :
    answerTo .drainRing (asked inUse 0x12 42 [2, 1]) = some (.reply 0x12 [2, 1, 1, 255, 255, 0, 3, 0, 0, 39, 16]) ∧
      answerTo .drainRing (asked inUse 0x12 42 [2, 7]) = some (.refused 0x12 4 1) ∧
      answerTo .discardRing (asked inUse 0x13 42 [2]) = some (.reply 0x13 [2, 2, 0, 1]) := by
  decide

theorem witness_RingsAreDrainedAndDiscarded :
    (inUse.ring 2).records = [record 65535, record 0] ++ [] ∧
      [record 65535, record 0].length = min (6 : Byte).toNat (inUse.ring 2).records.length := by
  decide

/-- R126's table, first row, and a refusal with the cause START; HOLD OUTPUTS adds HOST. -/
theorem test_outputs :
    let live := { ready with
      output := { ready.output with livePattern := 0x0C, mode := .live, causes := HoldCauses.empty } }
    answerTo .setOutputs (asked live 0x14 42 [0x03, 0xAB]) = some (.reply 0x14 [0x0F, 0]) ∧
      answerTo .setOutputs (asking 0x14 [0x03, 0xAB]) = some (.refused 0x14 10 1) ∧
      answerTo .holdOutputs (asking 0x15 []) = some (.reply 0x15 [1, 9]) := by
  decide

/-- RELEASE OUTPUTS while STOP is active, and without it. -/
theorem test_release_outputs :
    let stopped := { ready with protection := { ready.protection with stopActive := true } }
    answerTo .releaseOutputs (asked stopped 0x16 42 [213, 15]) = some (.refused 0x16 10 40) ∧
      answerTo .releaseOutputs (asking 0x16 [213, 15]) = some (.reply 0x16 [0, 0, 15]) := by
  decide

/-- SET STOP at its field limits, a change of active level that turns STOP active (R66's second row), and SET SILENCE. -/
theorem test_set_stop_and_set_silence :
    [[213, 2, 0, 0], [213, 1, 2, 0], [213, 1, 1, 8], [213, 1, 1, 7]].map (fun p => answerTo .setStop (asking 0x18 p)) =
      [some (.refused 0x18 4 1), some (.refused 0x18 4 2), some (.refused 0x18 4 3), some (.reply 0x18 [1, 1, 7, 1, 1])] ∧
    (after? .setSilence (asking 0x19 [213, 50])).map (·.protection.silenceTimer) = some (some 500000) ∧
    (after? .setSilence (asking 0x19 [213, 0])).map (·.protection.silenceTimer) = some none := by
  decide

theorem witness_SetStopWritesAndEvaluates :
    let s := stopPinAt false true 3 (some 20)
    (7 : Fin 8).val = (7 : Byte).toNat ∧ s.input.stop.qualifying ≠ none ∧ (7 : Fin 8) ≠ s.protection.stopCode ∧
      (0 : Fin 8) ≠ s.protection.stopCode ∧ (3 : Fin 8) = s.protection.stopCode ∧ (7 : Fin 8) ≠ 0 := by
  decide

end Sys2Proof.Tests
end

section
/-! SUPPORT. From a request's body to its answer: when the body refuses, its row Refuses; when it executes, its row Replies. -/

namespace Sys2Proof.Slice0

open Sys2Proof.Machine

/-- The answer as the obligations state it is the answer as the model gives it, the slot emptied before. -/
theorem answered_eq (t : State) (sequence : Byte) (a : Answer) :
    answered t sequence a = t.emptyIntake.answerNew sequence a := by
  rw [answered, lastFour, ← joinLog_eq]
  rfl

theorem newRequest?_of_stands {s : State} {kind sequence : Byte} {payload : List Byte}
    (hs : Stands s kind sequence payload) :
    s.newRequest? = some { kind := kind, sequence := sequence, payload := payload } := by
  obtain ⟨hheld, hwindow, hintake, hroom, hnew⟩ := hs
  exact State.newRequest?_eq_some.2 ⟨hheld, hwindow, hintake, hnew, hroom⟩

section
variable {c : Instr} {s : State} {kind sequence : Byte} {payload : List Byte} {body : Request → State → Verdict}

theorem refuses_of_body_refused {code detail : Byte} (hc : exec c s = serve kind body s)
    (hs : Stands s kind sequence payload)
    (hb : body { kind := kind, sequence := sequence, payload := payload } s.emptyIntake = .refused code detail) :
    Refuses c s kind sequence code detail := by
  rw [Refuses, Gives, hc, serve_refused (newRequest?_of_stands hs) rfl hb, answered_eq]

/-- The body runs on the state whose slot is already empty; what it leaves is `t` with the slot empty. -/
theorem replies_of_body_executed {t : State} {data : List Byte} (hc : exec c s = serve kind body s)
    (hs : Stands s kind sequence payload)
    (hb : body { kind := kind, sequence := sequence, payload := payload } s.emptyIntake = .executed t.emptyIntake data) :
    Replies c s t kind sequence data := by
  rw [Replies, Gives, hc, serve_executed (newRequest?_of_stands hs) rfl hb, answered_eq]

end

/-! ### Bodies that check in the order of a chain -/

/-- The verdict follows a chain of checks: it refuses with what the chain finds first, and meets `P` when the chain finds nothing. -/
def Follows (v : Verdict) (chain : Option (Byte × Byte)) (P : Verdict → Prop) : Prop :=
  match chain with
  | some (code, detail) => v = .refused code detail
  | none => P v

section
variable {v : Verdict} {rest : Option (Byte × Byte)} {P : Verdict → Prop}

/-- A field check in step with its link of the chain. -/
theorem Follows.field {α : Type} {offset : Nat} {value? : Option α} {k : α → Verdict} {bad : Prop} [Decidable bad]
    (hbad : value? = none ↔ bad) (hrest : ∀ a, value? = some a → Follows (k a) rest P) :
    Follows (field offset value? k) (if bad then some (badFieldCode, byteOf offset) else rest) P := by
  cases hvalue : value? with
  | none => rw [if_pos (hbad.1 hvalue)]; rfl
  | some a => rw [if_neg (mt hbad.2 (by simp [hvalue]))]; exact hrest a hvalue

/-- Any other check in step with its link of the chain. -/
theorem Follows.check {code detail : Byte} {wrong bad : Prop} [Decidable wrong] [Decidable bad] (hbad : wrong ↔ bad)
    (hrest : Follows v rest P) :
    Follows (if wrong then .refused code detail else v) (if bad then some (code, detail) else rest) P := by
  by_cases h : bad
  · rw [if_pos h, if_pos (hbad.2 h)]; rfl
  · rwa [if_neg h, if_neg (mt hbad.1 h)]

end

end Sys2Proof.Slice0
end

section
/-! SUPPORT. The codes of field values (R169): which bytes are codes, and that decoding inverts coding. -/

namespace Sys2Proof.Machine

@[simp] theorem byteOf_toNat (b : Byte) : byteOf b.toNat = b := by simp [byteOf]

theorem Mask.ofCode?_eq_none {b : Byte} : Mask.ofCode? b = none ↔ 1 < b.toNat := by
  unfold Mask.ofCode?
  split <;> simp_all
  omega

theorem Mask.code_of_ofCode?_eq_some {b : Byte} {m : Mask} (h : Mask.ofCode? b = some m) : m.code = b := by
  unfold Mask.ofCode? at h
  split at h <;> cases h <;> exact BitVec.eq_of_toNat_eq (Eq.symm ‹_›)

theorem Mode.ofCode?_eq_none {b : Byte} : Mode.ofCode? b = none ↔ 1 < b.toNat := by
  unfold Mode.ofCode?
  split <;> simp_all
  omega

theorem Mode.code_of_ofCode?_eq_some {b : Byte} {m : Mode} (h : Mode.ofCode? b = some m) : m.code = b := by
  unfold Mode.ofCode? at h
  split at h <;> cases h <;> exact BitVec.eq_of_toNat_eq (Eq.symm ‹_›)

theorem Level.ofCode?_eq_none {b : Byte} : Level.ofCode? b = none ↔ 3 < b.toNat := by
  unfold Level.ofCode?
  split <;> simp_all
  omega

theorem Level.code_of_ofCode?_eq_some {b : Byte} {l : Level} (h : Level.ofCode? b = some l) : l.code = b := by
  unfold Level.ofCode? at h
  split at h <;> cases h <;> exact BitVec.eq_of_toNat_eq (Eq.symm ‹_›)

theorem Mode.code_eq_one {m : Mode} : m.code = 1 ↔ m = .capture := by
  cases m <;> decide

theorem Mask.eq_ite_code (m : Mask) : m = if m.code = 1 then .unmasked else .masked := by
  cases m <;> rfl

/-- A list of numbers in range names as many things as it holds distinct numbers. -/
theorem length_listedNumbers {n : Nat} {list : List Byte} (h : ∀ b ∈ list, b.toNat < n) :
    (listedNumbers n list).length = (list.map BitVec.toNat).toFinset.card := by
  have hnodup : (listedNumbers n list).Nodup := (List.nodup_finRange n).filter _
  have himage : (list.map BitVec.toNat).toFinset = (listedNumbers n list).toFinset.image Fin.val := by
    ext k
    simp only [List.mem_toFinset, List.mem_map, Finset.mem_image, mem_listedNumbers]
    constructor
    · rintro ⟨b, hb, rfl⟩
      exact ⟨⟨b.toNat, h b hb⟩, ⟨b, hb, rfl⟩, rfl⟩
    · rintro ⟨i, ⟨b, hb, hi⟩, rfl⟩
      exact ⟨b, hb, hi⟩
  rw [himage, Finset.card_image_of_injective _ Fin.val_injective, List.toFinset_card_of_nodup hnodup]

end Sys2Proof.Machine
end

section
/-! PROOFS. The requests to the source table (chapter 1): SET SOURCE and MASK LIST. -/

namespace Sys2Proof.Slice0

open Sys2Proof.Machine

/-! ### SET SOURCE -/

/-- The record that SET SOURCE writes: the five settings of the request, and the account the source has (R18). -/
def writtenRecord (old : SourceRecord) (mask : Mask) (level : Level) (mode : Mode) (ring : Fin 4) (budget : Byte) :
    SourceRecord :=
  { mask := mask, level := level, mode := mode, ring := ring, budget := if mode = .capture then budget.toNat else 0
    account := old.account }

theorem settingsBytes_writtenRecord (old : SourceRecord) (mask : Mask) (level : Level) (mode : Mode) (ring : Fin 4)
    (budget : Byte) :
    (writtenRecord old mask level mode ring budget).settingsBytes =
      [mask.code, level.code, mode.code, byteOf ring.val, if mode.code = 1 then budget else 0] := by
  cases mode with
  | report => rfl
  | capture => simp [writtenRecord, SourceRecord.settingsBytes, Mode.code]

/-- What the body of SET SOURCE comes to past its checks: the record of the source is written, and its settings are the data. -/
def WritesSource (s : State) (source mask level mode ring budget : Byte) (v : Verdict) : Prop :=
  ∃ (n : Fin 42) (m : Mask) (l : Level) (o : Mode) (k : Fin 4), n.val = source.toNat ∧ m.code = mask ∧ l.code = level ∧
    o.code = mode ∧ k.val = ring.toNat ∧
    v = .executed (s.setSource n (writtenRecord (s.source n) m l o k budget))
      (source :: (writtenRecord (s.source n) m l o k budget).settingsBytes)

/-- R17's order: the six fields, then the conflicts. -/
theorem setSourceBody_follows (s : State) (kind sequence source mask level mode ring budget : Byte) :
    Follows (setSourceBody ⟨kind, sequence, [source, mask, level, mode, ring, budget]⟩ s)
      (setSourceRefusal source mask level mode ring budget) (WritesSource s source mask level mode ring budget) := by
  refine .field number?_eq_none fun n hn => ?source
  refine .field Mask.ofCode?_eq_none fun m hm => ?mask
  refine .field Level.ofCode?_eq_none fun l hl => ?level
  refine .field Mode.ofCode?_eq_none fun o ho => ?mode
  have hn := number?_eq_some.1 hn
  have hmode : mode = 1 ↔ o = .capture := Mode.code_of_ofCode?_eq_some ho ▸ Mode.code_eq_one
  refine .field number?_eq_none fun k hk => ?ring
  refine .field (by rw [hmode]; simp) fun b hb => ?budget
  obtain rfl : budget.toNat = b := by simpa using (Option.ite_none_left_eq_some.1 hb).2
  refine .check (by rw [hn, hmode]) ?conflict
  exact ⟨n, m, l, o, k, hn, Mask.code_of_ofCode?_eq_some hm, Level.code_of_ofCode?_eq_some hl,
    Mode.code_of_ofCode?_eq_some ho, number?_eq_some.1 hk, rfl⟩

/-! ### MASK LIST -/

theorem source_maskSources (s : State) (m : Mask) (listed : List (Fin 42)) (n : Fin 42) :
    (s.maskSources m listed).source n = if n ∈ listed then { s.source n with mask := m } else s.source n :=
  Table.get_ofFn ..

section
variable (s : State) (kind sequence : Byte) {mask : Byte} {list : List Byte}

theorem maskListBody_of_bad_length (hlength : list = [] ∨ 40 < list.length) :
    maskListBody ⟨kind, sequence, mask :: list⟩ s = .refused badLengthCode (byteOf (list.length + 1)) :=
  if_pos hlength

theorem maskListBody_of_bad_mask (hlength : ¬ (list = [] ∨ 40 < list.length)) (hmask : 1 < mask.toNat) :
    maskListBody ⟨kind, sequence, mask :: list⟩ s = .refused badFieldCode 0 := by
  simp only [maskListBody, if_neg hlength, Mask.ofCode?_eq_none.2 hmask]
  rfl

variable {m : Mask} (hlength : ¬ (list = [] ∨ 40 < list.length)) (hmask : Mask.ofCode? mask = some m)
include hlength hmask

theorem maskListBody_of_number_above_41 {b : Byte} (hb : (list.find? fun b => 41 < b.toNat) = some b) :
    maskListBody ⟨kind, sequence, mask :: list⟩ s = .refused badFieldCode b := by
  simp only [maskListBody, if_neg hlength, hmask, field_some, hb]

theorem maskListBody_of_urgent_number {b : Byte} (hnone : (list.find? fun b => 41 < b.toNat) = none)
    (hb : (list.find? fun b => 40 ≤ b.toNat) = some b) :
    maskListBody ⟨kind, sequence, mask :: list⟩ s = .refused modeConflictCode b := by
  simp only [maskListBody, if_neg hlength, hmask, field_some, hnone, hb]

theorem maskListBody_of_maskable_numbers (hlist : ∀ b ∈ list, b.toNat < 40) :
    maskListBody ⟨kind, sequence, mask :: list⟩ s =
      .executed (s.maskSources m (listedNumbers 42 list)) [mask, byteOf (list.map BitVec.toNat).toFinset.card] := by
  have hin : (list.find? fun b => 41 < b.toNat) = none := by
    simpa using fun b hb => (hlist b hb).le.trans (by decide)
  have hmaskable : (list.find? fun b => 40 ≤ b.toNat) = none := by simpa using hlist
  simp only [maskListBody, if_neg hlength, hmask, field_some, hin, hmaskable, Mask.code_of_ofCode?_eq_some hmask,
    length_listedNumbers fun b hb => (hlist b hb).trans (by decide : 40 < 42)]

end

end Sys2Proof.Slice0

open Sys2Proof Sys2Proof.Machine Sys2Proof.Slice0

/-- Settles O44: the body of SET SOURCE and R17's chain take the same branch. -/
theorem setSourceChecksAndWrites : Obligations.SetSourceChecksAndWrites := by
  intro s sequence source mask level mode ring budget hs
  have hbody := setSourceBody_follows s.emptyIntake 0x02 sequence source mask level mode ring budget
  constructor
  · intro code detail hchain
    rw [hchain] at hbody
    exact refuses_of_body_refused rfl hs hbody
  · intro hchain
    rw [hchain] at hbody
    obtain ⟨n, m, l, o, k, hn, rfl, rfl, rfl, hk, hbody⟩ := hbody
    refine ⟨n, writtenRecord (s.source n) m l o k budget, hn, rfl, rfl, rfl, hk, ?_, rfl, ?_⟩
    · simp only [writtenRecord, Mode.code_eq_one]
    · rw [settingsBytes_writtenRecord, hk, byteOf_toNat] at hbody
      exact replies_of_body_executed rfl hs hbody

/-- Settles O46: one equation of the body for each of R20's checks, and R21's write. -/
theorem maskListSetsTheListedMasks : Obligations.MaskListSetsTheListedMasks := by
  intro s sequence mask list hs
  refine ⟨fun hbad => refuses_of_body_refused rfl hs (maskListBody_of_bad_length _ _ _ hbad), fun hne hle => ?_⟩
  have hlength : ¬ (list = [] ∨ 40 < list.length) := by simp [hne, hle]
  have hcode : mask.toNat ≤ 1 → ∃ m, Mask.ofCode? mask = some m := fun h =>
    Option.ne_none_iff_exists'.1 (mt Mask.ofCode?_eq_none.1 h.not_gt)
  refine ⟨fun hbad => ?mask, fun before b after hok hsplit hbefore hb => ?above,
    fun before b after hok hsplit hin hbefore hb => ?urgent, fun hok hlist => ?execute⟩
  case mask => exact refuses_of_body_refused rfl hs (maskListBody_of_bad_mask _ _ _ hlength hbad)
  case above =>
    obtain ⟨m, hm⟩ := hcode hok
    have hfind : (list.find? fun b => 41 < b.toNat) = some b :=
      List.find?_eq_some_iff_append.2 ⟨by simpa using hb, before, after, hsplit, by simpa using hbefore⟩
    exact refuses_of_body_refused rfl hs (maskListBody_of_number_above_41 _ _ _ hlength hm hfind)
  case urgent =>
    obtain ⟨m, hm⟩ := hcode hok
    have hnone : (list.find? fun b => 41 < b.toNat) = none := by simpa using hin
    have hfind : (list.find? fun b => 40 ≤ b.toNat) = some b :=
      List.find?_eq_some_iff_append.2 ⟨by simpa using hb, before, after, hsplit, by simpa using hbefore⟩
    exact refuses_of_body_refused rfl hs (maskListBody_of_urgent_number _ _ _ hlength hm hnone hfind)
  case execute =>
    obtain ⟨m, hm⟩ := hcode hok
    refine ⟨s.maskSources m (listedNumbers 42 list),
      replies_of_body_executed rfl hs (maskListBody_of_maskable_numbers _ _ _ hlength hm hlist), fun n => ?_, rfl⟩
    rw [source_maskSources, ← Mask.code_of_ofCode?_eq_some hm, ← m.eq_ite_code]
    simp only [mem_listedNumbers]
end

section
/-! PROOFS. Delivery (chapter 2): the expiry of the take timer, and READ STACK. -/

namespace Sys2Proof.Slice0

open Sys2Proof.Machine

/-! ### The account of a withdrawn offer (R40) -/

/-- R40's table for a source that has become pending again: the counts are added up to 255, the first time is the offer's, the last
time is the newest the source has, and the offer's cause stands unless it is a plain occurrence. -/
theorem mergeAccount_some (e a : Account) :
    mergeAccount e (some a) =
      { count := if e.count + a.count ≤ 255 then e.count + a.count else 255
        first := e.first
        last := some (a.last.getD a.first)
        cause := if e.cause = .occurrence then a.cause else e.cause } := by
  rw [mergeAccount, Nat.min_comm, Nat.min_def]

/-! ### TAKE_TIMER_EXPIRY -/

/-- When the take timer of an offer has run out, and which entry's it is: the innermost one (R37, R43). -/
theorem takeExpiry?_eq_some {s : State} {e : Entry} {rest : List Entry} :
    s.takeExpiry? = some (e, rest) ↔
      s.held = false ∧ s.command.window = false ∧ s.delivery.takeTimer = some 0 ∧ s.delivery.stack = e :: rest ∧
        e.phase = .offered := by
  unfold State.takeExpiry?
  cases s.delivery.stack with
  | nil => simp
  | cons x xs =>
    simp only [Option.ite_none_right_eq_some, Option.some.injEq, Prod.mk.injEq, List.cons.injEq, Bool.and_eq_true,
      Bool.not_eq_true', decide_eq_true_eq, and_assoc]
    constructor
    · rintro ⟨hheld, hwindow, htimer, hphase, rfl, rfl⟩
      exact ⟨hheld, hwindow, htimer, rfl, rfl, hphase⟩
    · rintro ⟨hheld, hwindow, htimer, rfl, rfl, hphase⟩
      exact ⟨hheld, hwindow, htimer, hphase, rfl, rfl⟩

section
variable {s : State} {e : Entry} {rest : List Entry} (hdue : s.takeExpiry? = some (e, rest))
include hdue

theorem takeTimerExpiry_gives_resend (hbelow : e.attempts < s.delivery.retryLimit + 1) :
    Gives .takeTimerExpiry s (s.resend e rest) := by
  change execTakeTimerExpiry s = .next (s.resend e rest)
  simp only [execTakeTimerExpiry, hdue, if_pos hbelow]

theorem takeTimerExpiry_gives_withdraw (hlimit : s.delivery.retryLimit + 1 ≤ e.attempts) :
    Gives .takeTimerExpiry s (s.withdraw e rest) := by
  change execTakeTimerExpiry s = .next (s.withdraw e rest)
  simp only [execTakeTimerExpiry, hdue, if_neg hlimit.not_gt]

end

/-- The record is written last; what it is given comes from the state before the withdrawal. -/
theorem withdraw_eq_setSource (s : State) (e : Entry) (rest : List Entry) :
    s.withdraw e rest =
      { s with
        delivery := { s.delivery with
          stack := rest, gate := e.savedGate, takeTimer := none, mode := .suspended } }.setSource e.source
        { s.source e.source with account := some (mergeAccount e.account (s.source e.source).account) } := rfl

/-! ### READ STACK -/

theorem readStackBody_of_no_payload (s : State) (kind sequence : Byte) :
    readStackBody ⟨kind, sequence, []⟩ s =
      .executed s
        ([s.delivery.gate.code, s.delivery.mode.code, byteOf s.delivery.takeTimeout, byteOf s.delivery.retryLimit,
          (if s.delivery.reentry = true then 1 else 0), s.delivery.noticeCounter, byteOf s.delivery.stack.length] ++
          (s.delivery.stack.reverse.map Entry.bytes).flatten) := by
  rw [← List.flatMap_def]
  rfl

end Sys2Proof.Slice0

open Sys2Proof Sys2Proof.Machine Sys2Proof.Slice0

/-- Settles O26: an expiry that is due resends or withdraws, and the account a withdrawal returns is R40's, row by row. -/
theorem takeTimerExpiryResendsOrWithdraws : Obligations.TakeTimerExpiryResendsOrWithdraws := by
  intro s e rest hheld hwindow htimer hstack hphase
  have hdue : s.takeExpiry? = some (e, rest) := takeExpiry?_eq_some.2 ⟨hheld, hwindow, htimer, hstack, hphase⟩
  refine ⟨fun hbelow => takeTimerExpiry_gives_resend hdue hbelow, fun hlimit => ?_⟩
  have hgives := takeTimerExpiry_gives_withdraw hdue hlimit
  rw [withdraw_eq_setSource] at hgives
  cases haccount : (s.source e.source).account with
  | none => rwa [haccount, mergeAccount_none] at hgives
  | some a =>
    rw [haccount, mergeAccount_some] at hgives
    cases hlast : a.last <;> simpa only [hlast, Option.getD_none, Option.getD_some] using hgives

/-- Settles O31: the body runs on the state with the slot emptied, whose delivery unit is the same, and leaves it so. -/
theorem readStackReportsTheDeliveryUnit : Obligations.ReadStackReportsTheDeliveryUnit := by
  intro s sequence hs
  refine replies_of_body_executed rfl hs ?_
  rw [readStackBody_of_no_payload, State.emptyIntake_delivery]
  congr 3
  refine List.map_congr_left fun e _ => ?_
  cases hphase : e.phase <;> simp only [Entry.bytes, hphase, phaseCode]
end

section
/-! SUPPORT. The codes of on/off items (R169). -/

namespace Sys2Proof.Machine

theorem boolOfCode?_eq_none {b : Byte} : boolOfCode? b = none ↔ 1 < b.toNat := by
  unfold boolOfCode?
  split <;> simp_all
  omega

section
variable {b : Byte} (h : b.toNat ≤ 1)
include h

theorem eq_zero_or_one_of_toNat_le_one : b = 0 ∨ b = 1 := by bv_omega

theorem boolOfCode?_of_toNat_le_one : boolOfCode? b = some (b == 1) := by
  obtain rfl | rfl := eq_zero_or_one_of_toNat_le_one h <;> rfl

theorem boolCode_beq_one_of_toNat_le_one : boolCode (b == 1) = b := by
  obtain rfl | rfl := eq_zero_or_one_of_toNat_le_one h <;> rfl

end

end Sys2Proof.Machine
end

section
/-! PROOFS. The requests on the capture rings (4.7): SET RING. -/

namespace Sys2Proof.Slice0

open Sys2Proof.Machine

section
variable (s : State) (kind sequence : Byte) {ring : Byte} (snapshot watermark : Byte)

theorem setRingBody_of_bad_ring (hring : 4 ≤ ring.toNat) :
    setRingBody ⟨kind, sequence, [ring, snapshot, watermark]⟩ s = .refused badFieldCode 0 := by
  simp only [setRingBody, number?_eq_none.2 hring]
  rfl

variable {snapshot watermark} {n : Fin 4} (hring : n.val = ring.toNat)
include hring

theorem setRingBody_of_bad_snapshot (hsnapshot : 1 < snapshot.toNat) :
    setRingBody ⟨kind, sequence, [ring, snapshot, watermark]⟩ s = .refused badFieldCode 1 := by
  simp only [setRingBody, number?_eq_some.2 hring, field_some, boolOfCode?_eq_none.2 hsnapshot]
  rfl

variable (hsnapshot : snapshot.toNat ≤ 1)
include hsnapshot

theorem setRingBody_of_bad_watermark (hwatermark : 64 < watermark.toNat) :
    setRingBody ⟨kind, sequence, [ring, snapshot, watermark]⟩ s = .refused badFieldCode 2 := by
  simp only [setRingBody, number?_eq_some.2 hring, field_some, boolOfCode?_of_toNat_le_one hsnapshot,
    bounded?_eq_none.2 (.inr hwatermark)]
  rfl

/-- R89: past the checks the two settings are written, and the REPLY gives the fill and the counter the ring has kept. -/
theorem setRingBody_of_fields_in_range (hwatermark : watermark.toNat ≤ 64) :
    setRingBody ⟨kind, sequence, [ring, snapshot, watermark]⟩ s =
      .executed (s.setRingTo n { s.ring n with snapshot := snapshot == 1, watermark := watermark.toNat })
        ([ring, snapshot, watermark, byteOf (s.ring n).records.length] ++ bytes16 (s.ring n).counter) := by
  have hbounded : bounded? 0 64 watermark = some watermark.toNat :=
    bounded?_eq_some.2 ⟨Nat.zero_le _, hwatermark, rfl⟩
  simp only [setRingBody, number?_eq_some.2 hring, field_some, boolOfCode?_of_toNat_le_one hsnapshot, hbounded,
    boolCode_beq_one_of_toNat_le_one hsnapshot, byteOf_toNat]

end

end Sys2Proof.Slice0

open Sys2Proof Sys2Proof.Machine Sys2Proof.Slice0

/-- Settles O53: one equation of the body for each of R88's checks in their order, and one for R89's write. -/
theorem setRingWritesItsTwoSettings : Obligations.SetRingWritesItsTwoSettings := by
  intro s sequence ring snapshot watermark hs
  have hnumber : ring.toNat ≤ 3 → ∃ n : Fin 4, n.val = ring.toNat := fun h => ⟨⟨ring.toNat, by omega⟩, rfl⟩
  refine ⟨fun hbad => ?ring, fun hin hbad => ?snapshot, fun hin hsnapshot hbad => ?watermark,
    fun n hn hsnapshot hwatermark => ?execute⟩
  case ring => exact refuses_of_body_refused rfl hs (setRingBody_of_bad_ring _ _ _ _ _ hbad)
  case snapshot =>
    obtain ⟨n, hn⟩ := hnumber hin
    exact refuses_of_body_refused rfl hs (setRingBody_of_bad_snapshot _ _ _ hn hbad)
  case watermark =>
    obtain ⟨n, hn⟩ := hnumber hin
    exact refuses_of_body_refused rfl hs (setRingBody_of_bad_watermark _ _ _ hn hsnapshot hbad)
  case execute =>
    exact replies_of_body_executed rfl hs (setRingBody_of_fields_in_range _ _ _ hn hsnapshot hwatermark)
end

section
/-! SUPPORT. The codes of a timer's fields (R169), and the data that SET TIMER and GET TIMER report (R171). -/

namespace Sys2Proof.Machine

/-! ### The mode -/

theorem TimerMode.ofCode?_eq_none {b : Byte} : TimerMode.ofCode? b = none ↔ 3 < b.toNat := by
  unfold TimerMode.ofCode?
  split <;> simp_all
  omega

theorem TimerMode.code_of_ofCode?_eq_some {b : Byte} {m : TimerMode} (h : TimerMode.ofCode? b = some m) : m.code = b := by
  unfold TimerMode.ofCode? at h
  split at h <;> cases h <;> exact BitVec.eq_of_toNat_eq (Eq.symm ‹_›)

theorem TimerMode.code_eq_zero {m : TimerMode} : m.code = 0 ↔ m = .off := by
  cases m <;> decide

theorem TimerMode.code_eq_three {m : TimerMode} : m.code = 3 ↔ m = .onTrigger := by
  cases m <;> decide

/-! ### The trigger channel -/

theorem triggerOfCode?_of_ne {b : Byte} (h : b ≠ 0xFF) : triggerOfCode? b = (number? 32 b.toNat).map some := if_neg h

theorem triggerOfCode?_eq_some_none {b : Byte} : triggerOfCode? b = some none ↔ b = 0xFF := by
  simp [triggerOfCode?]

theorem triggerOfCode?_eq_some_some {b : Byte} {c : Fin 32} : triggerOfCode? b = some (some c) ↔ c.val = b.toNat := by
  by_cases hb : b = 0xFF
  · subst hb
    exact iff_of_false nofun (c.isLt.trans (by decide)).ne
  · simp [triggerOfCode?_of_ne hb, number?_eq_some]

theorem triggerOfCode?_eq_none {b : Byte} : triggerOfCode? b = none ↔ 31 < b.toNat ∧ b ≠ 0xFF := by
  by_cases hb : b = 0xFF
  · subst hb
    exact iff_of_false nofun fun h => h.2 rfl
  · rw [triggerOfCode?_of_ne hb, Option.map_eq_none_iff, number?_eq_none, and_iff_left hb, Nat.lt_iff_add_one_le]

theorem triggerCode_of_triggerOfCode?_eq_some {b : Byte} {c : Option (Fin 32)} (h : triggerOfCode? b = some c) :
    triggerCode c = b := by
  cases c with
  | none => exact (triggerOfCode?_eq_some_none.1 h).symm
  | some c => rw [triggerCode, triggerOfCode?_eq_some_some.1 h, byteOf_toNat]

/-! ### The period -/

theorem number16_eq_zero {high low : Byte} : number16 high low = 0 ↔ high = 0 ∧ low = 0 := by
  simp [number16, ← BitVec.toNat_inj]

theorem bytes16_number16 (high low : Byte) : bytes16 (.ofNat 16 (number16 high low)) = [high, low] := by
  have hhigh := high.isLt
  have hlow := low.isLt
  simp only [bytes16, number16, List.cons.injEq, and_true, ← BitVec.toNat_inj, BitVec.extractLsb'_toNat, BitVec.toNat_ofNat,
    Nat.shiftRight_eq_div_pow]
  omega

/-! ### The remaining time -/

namespace IntervalTimer

variable {t : IntervalTimer}

theorem remainingUnits_of_not_running (h : t.phase ≠ .running) : t.remainingUnits = 0 := by
  cases hphase : t.phase <;> simp_all [remainingUnits]

theorem remainingUnits_of_running (h : t.phase = .running) : t.remainingUnits = max 1 ((t.remaining + 99) / 100) := by
  simp only [remainingUnits, h]

/-- The units reported are the fewest that hold the remaining time. -/
theorem remainingUnits_rounds_up (h : t.phase = .running) (hleft : 0 < t.remaining) :
    100 * (t.remainingUnits - 1) < t.remaining ∧ t.remaining ≤ 100 * t.remainingUnits := by
  rw [remainingUnits_of_running h]
  omega

theorem remainingUnits_of_whole {k : Nat} (h : t.phase = .running) (hleft : t.remaining = k * 100) (hk : k ≠ 0) :
    t.remainingUnits = k := by
  rw [remainingUnits_of_running h]
  omega

end IntervalTimer

end Sys2Proof.Machine
end

section
/-! PROOFS. The interval timers (chapter 6): SET TIMER and GET TIMER. -/

namespace Sys2Proof.Machine

/-! ### A timer as SET TIMER leaves it (R120) -/

namespace IntervalTimer

variable (mode : TimerMode) (period : Nat) (trigger : Option (Fin 32))

@[simp] theorem configured_mode : (configured mode period trigger).mode = mode := by cases mode <;> rfl

@[simp] theorem configured_period : (configured mode period trigger).period = period := by cases mode <;> rfl

theorem configured_trigger :
    (configured mode period trigger).trigger = if mode = .onTrigger then trigger else none := by cases mode <;> rfl

/-- A timer set RUNNING has its full period left, which the mode forbids to be 0 (R119); any other has nothing left. -/
theorem remainingUnits_configured (hperiod : period = 0 → mode = .off) :
    (configured mode period trigger).remainingUnits =
      if (configured mode period trigger).phase = .running then period else 0 := by
  split
  case isFalse hphase => exact remainingUnits_of_not_running hphase
  case isTrue hphase =>
    have hmode : mode ≠ .off := by rintro rfl; cases hphase
    have hleft : (configured mode period trigger).remaining = period * 100 := by
      cases mode with
      | off | onTrigger => cases hphase
      | once | repeating => rfl
    exact remainingUnits_of_whole hphase hleft (mt hperiod hmode)

end IntervalTimer

end Sys2Proof.Machine

namespace Sys2Proof.Slice0

open Sys2Proof.Machine

/-! ### SET TIMER -/

/-- What the body of SET TIMER comes to past its checks: the timer is set by the decoded fields, and is the data. -/
def SetsTimer (s : State) (timer mode high low trigger : Byte) (v : Verdict) : Prop :=
  ∃ (n : Fin 4) (m : TimerMode) (c : Option (Fin 32)), n.val = timer.toNat ∧ m.code = mode ∧
    (number16 high low = 0 → m = .off) ∧ triggerOfCode? trigger = some c ∧ (m = .onTrigger → c ≠ none) ∧
    v = .executed (s.setIntervalTimer n (.configured m (number16 high low) c))
      (timerBytes n (.configured m (number16 high low) c))

/-- R119's order: the timer, the mode, the period, then the trigger channel by its range and by the mode. -/
theorem setTimerBody_follows (s : State) (kind sequence timer mode high low trigger : Byte) :
    Follows (setTimerBody ⟨kind, sequence, [timer, mode, high, low, trigger]⟩ s)
      (setTimerRefusal timer mode high low trigger) (SetsTimer s timer mode high low trigger) := by
  refine .field number?_eq_none fun n hn => ?timer
  refine .field TimerMode.ofCode?_eq_none fun m hm => ?mode
  obtain rfl : m.code = mode := TimerMode.code_of_ofCode?_eq_some hm
  refine .field (by rw [ne_eq m.code, TimerMode.code_eq_zero, ← and_assoc, ← number16_eq_zero]; simp) fun period hp => ?period
  obtain ⟨hperiod, rfl⟩ : ¬ (number16 high low = 0 ∧ m ≠ .off) ∧ number16 high low = period := by simpa using hp
  refine .field triggerOfCode?_eq_none fun c hc => ?range
  have hnone : c = none ↔ trigger = 0xFF := by rw [← triggerOfCode?_eq_some_none, hc, Option.some.injEq]
  refine .field (by rw [TimerMode.code_eq_three, ← hnone]; simp) fun c' hc' => ?byMode
  obtain ⟨htrigger, rfl⟩ : ¬ (c = none ∧ m = .onTrigger) ∧ c = c' := by simpa using hc'
  exact ⟨n, m, c, number?_eq_some.1 hn, rfl, fun h => not_not.1 fun hoff => hperiod ⟨h, hoff⟩, hc,
    fun h hc => htrigger ⟨hc, h⟩, rfl⟩

/-- The data of SET TIMER in the bytes of the request. -/
theorem timerBytes_configured {n : Fin 4} {m : TimerMode} {c : Option (Fin 32)} {timer high low trigger : Byte}
    (hn : n.val = timer.toNat) (hperiod : number16 high low = 0 → m = .off) (hc : triggerOfCode? trigger = some c) :
    timerBytes n (.configured m (number16 high low) c) =
      [timer, m.code, (IntervalTimer.configured m (number16 high low) c).phase.code, high, low,
        if (IntervalTimer.configured m (number16 high low) c).phase = .running then high else 0,
        if (IntervalTimer.configured m (number16 high low) c).phase = .running then low else 0,
        if m = .onTrigger then trigger else 0xFF] := by
  have htrigger : triggerCode (if m = .onTrigger then c else none) = if m = .onTrigger then trigger else 0xFF := by
    split
    · exact triggerCode_of_triggerOfCode?_eq_some hc
    · rfl
  rw [timerBytes, hn, byteOf_toNat, IntervalTimer.configured_mode, IntervalTimer.configured_period, bytes16_number16,
    IntervalTimer.remainingUnits_configured _ _ _ hperiod, IntervalTimer.configured_trigger, htrigger]
  split
  · rw [bytes16_number16]; rfl
  · rfl

/-! ### GET TIMER -/

section
variable (s : State) (kind sequence : Byte) {timer : Byte}

theorem getTimerBody_of_bad_timer (htimer : 4 ≤ timer.toNat) :
    getTimerBody ⟨kind, sequence, [timer]⟩ s = .refused badFieldCode 0 := by
  simp only [getTimerBody, number?_eq_none.2 htimer]
  rfl

theorem getTimerBody_of_timer {n : Fin 4} (hn : n.val = timer.toNat) :
    getTimerBody ⟨kind, sequence, [timer]⟩ s = .executed s
      ([timer, (s.intervalTimer n).mode.code, (s.intervalTimer n).phase.code] ++
        bytes16 (.ofNat 16 (s.intervalTimer n).period) ++ bytes16 (.ofNat 16 (s.intervalTimer n).remainingUnits) ++
        [triggerCode (s.intervalTimer n).trigger]) := by
  simp only [getTimerBody, number?_eq_some.2 hn, field_some, timerBytes, hn, byteOf_toNat]

end

end Sys2Proof.Slice0

open Sys2Proof Sys2Proof.Machine Sys2Proof.Slice0

/-- Settles O50: the body of SET TIMER and R119's chain take the same branch, and R120 is read off mode by mode. -/
theorem setTimerChecksAndStarts : Obligations.SetTimerChecksAndStarts := by
  intro s sequence timer mode high low trigger hs
  have hbody := setTimerBody_follows s.emptyIntake 0x0D sequence timer mode high low trigger
  constructor
  · intro code detail hchain
    rw [hchain] at hbody
    exact refuses_of_body_refused rfl hs hbody
  · intro hchain
    rw [hchain] at hbody
    obtain ⟨n, m, c, hn, rfl, hperiod, hc, hchannel, hbody⟩ := hbody
    rw [timerBytes_configured hn hperiod hc] at hbody
    refine ⟨n, .configured m (number16 high low) c, hn, by rw [IntervalTimer.configured_mode],
      IntervalTimer.configured_period .., ?off, ?timed, ?onTrigger, ?reply⟩
    case off =>
      rw [IntervalTimer.configured_mode]
      rintro rfl
      exact ⟨rfl, rfl, rfl⟩
    case timed =>
      rw [IntervalTimer.configured_mode]
      rintro (rfl | rfl) <;> exact ⟨rfl, rfl, rfl⟩
    case onTrigger =>
      rw [IntervalTimer.configured_mode]
      rintro rfl
      obtain ⟨channel, rfl⟩ := Option.ne_none_iff_exists'.1 (hchannel rfl)
      exact ⟨rfl, rfl, channel, rfl, triggerOfCode?_eq_some_some.1 hc⟩
    case reply =>
      rw [IntervalTimer.configured_mode]
      exact replies_of_body_executed rfl hs hbody

/-- Settles O51: the body runs on the state with the slot emptied, whose timers are the same, and leaves it so. -/
theorem getTimerReportsTheTimer : Obligations.GetTimerReportsTheTimer := by
  intro s sequence timer hs
  refine ⟨fun hbad => refuses_of_body_refused rfl hs (getTimerBody_of_bad_timer _ _ _ hbad), fun n hn => ?_⟩
  exact ⟨(s.intervalTimer n).remainingUnits, IntervalTimer.remainingUnits_of_not_running,
    IntervalTimer.remainingUnits_rounds_up, replies_of_body_executed rfl hs (getTimerBody_of_timer _ _ _ hn)⟩
end

section
/-! SUPPORT. What the output pins show in each output state (R123), and the lines a mask selects (R126). -/

namespace Sys2Proof.Machine

theorem State.outputLines_of_live {s : State} (h : s.output.mode = .live) : s.outputLines = s.output.livePattern := by
  simp only [State.outputLines, h]

theorem State.outputLines_of_safeHeld {s : State} (h : s.output.mode = .safeHeld) :
    s.outputLines = s.output.safePattern := by
  simp only [State.outputLines, h]

/-- A line takes its level from the values where the mask selects it, else from the old pattern. -/
theorem getLsbD_selectedLines (old mask values : Byte) {line : Nat} (h : line < 8) :
    ((old &&& ~~~mask) ||| (values &&& mask)).getLsbD line =
      if mask.getLsbD line = true then values.getLsbD line else old.getLsbD line := by
  rw [BitVec.getLsbD_or, BitVec.getLsbD_and, BitVec.getLsbD_and, BitVec.getLsbD_not]
  cases mask.getLsbD line <;> simp [h]

end Sys2Proof.Machine
end

section
/-! PROOFS. The requests on the output lines (7.4): SET OUTPUTS, HOLD OUTPUTS and RELEASE OUTPUTS. -/

namespace Sys2Proof.Slice0

open Sys2Proof.Machine

section
variable (s : State) (kind sequence : Byte)

/-! ### SET OUTPUTS -/

theorem setOutputsBody_of_safeHeld (mask values : Byte) (hmode : s.output.mode = .safeHeld) :
    setOutputsBody ⟨kind, sequence, [mask, values]⟩ s = .refused outputsHeldCode s.output.causes.code := by
  simp only [setOutputsBody, hmode]

theorem setOutputsBody_of_live (mask values : Byte) (hmode : s.output.mode = .live) :
    setOutputsBody ⟨kind, sequence, [mask, values]⟩ s =
      .executed
        { s with output :=
            { s.output with livePattern := (s.output.livePattern &&& ~~~mask) ||| (values &&& mask) } }
        [(s.output.livePattern &&& ~~~mask) ||| (values &&& mask), 0] := by
  simp only [setOutputsBody, hmode]
  rfl

/-! ### HOLD OUTPUTS -/

theorem holdOutputsBody_of_no_payload :
    holdOutputsBody ⟨kind, sequence, []⟩ s =
      .executed (s.holdClaim .host) [1, (s.holdClaim .host).output.causes.code] := rfl

/-! ### RELEASE OUTPUTS -/

variable {sequence} {guard : Byte} (pattern : Byte) (hguard : guard = 255 - sequence)
include hguard

theorem releaseOutputsBody_of_stopActive (hstop : s.protection.stopActive = true) :
    releaseOutputsBody ⟨kind, sequence, [guard, pattern]⟩ s = .refused outputsHeldCode 40 :=
  (guarded_right (r := ⟨kind, sequence, [guard, pattern]⟩) hguard _).trans (if_pos hstop)

theorem releaseOutputsBody_of_not_stopActive (hstop : s.protection.stopActive = false) :
    releaseOutputsBody ⟨kind, sequence, [guard, pattern]⟩ s =
      .executed
        { s with output := { s.output with causes := HoldCauses.empty, livePattern := pattern, mode := .live } }
        [0, 0, pattern] :=
  (guarded_right (r := ⟨kind, sequence, [guard, pattern]⟩) hguard _).trans (if_neg (ne_true_of_eq_false hstop))

end

end Sys2Proof.Slice0

open Sys2Proof Sys2Proof.Machine Sys2Proof.Slice0

/-- Settles O55: one equation of SET OUTPUTS' body for each output state, and HOLD OUTPUTS as the hold claim with cause HOST. -/
theorem outputsAreSetWhileLiveAndHeldAtAnyTime : Obligations.OutputsAreSetWhileLiveAndHeldAtAnyTime := by
  intro s sequence
  refine ⟨fun mask values hs => ⟨fun hheld => ?held, fun hlive => ?live⟩, fun hs => ?hold⟩
  case held => exact refuses_of_body_refused rfl hs (setOutputsBody_of_safeHeld _ _ _ _ _ hheld)
  case live =>
    exact ⟨_, fun line hline => getLsbD_selectedLines _ _ _ hline, State.outputLines_of_live hlive,
      replies_of_body_executed rfl hs (setOutputsBody_of_live _ _ _ _ _ hlive)⟩
  case hold =>
    exact ⟨s.holdClaim .host, replies_of_body_executed rfl hs (holdOutputsBody_of_no_payload _ _ _), rfl,
      State.outputLines_of_safeHeld rfl⟩

/-- Settles O56: past the guard the body has two branches, by STOP active; in LIVE the pins show the pattern just loaded. -/
theorem releaseEmptiesTheCausesUnlessStopIsActive : Obligations.ReleaseEmptiesTheCausesUnlessStopIsActive := by
  intro s sequence guard pattern hs hguard
  rw [← complement_iff] at hguard
  refine ⟨fun hstop => ?refused, fun hstop => ?released⟩
  case refused => exact refuses_of_body_refused rfl hs (releaseOutputsBody_of_stopActive _ _ _ hguard hstop)
  case released =>
    refine ⟨_, replies_of_body_executed rfl hs ?_, State.outputLines_of_live rfl, rfl⟩
    exact releaseOutputsBody_of_not_stopActive s.emptyIntake _ _ hguard hstop
end

section
/-! SUPPORT. The order of the checks of a request (R153): what comes past a check, and what a row that checks in this order answers. -/

namespace Sys2Proof.Slice0

open Sys2Proof.Machine

/-! ### Past a check -/

/-- The verdict comes past every check whose refusal code is at most `code`, the refusal codes standing in the order of the checks
(R153): if it refuses, a later check did; if it executes, the intake slot is left empty. -/
inductive Past (code : Byte) : Verdict → Prop
  | executed {t : State} {data : List Byte} (hslot : t.link.intake = none) : Past code (.executed t data)
  | refused {later detail : Byte} (hlater : code < later) : Past code (.refused later detail)

namespace Past

theorem field {α : Type} {code : Byte} {offset : Nat} {value? : Option α} {k : α → Verdict}
    (hcode : code < badFieldCode) (hk : ∀ a, Past code (k a)) : Past code (field offset value? k) := by
  cases value? with
  | none => exact .refused hcode
  | some a => exact hk a

/-- Past the length a request may still fail its guard. -/
theorem guarded {r : Request} {guard : Byte} {k : Verdict} (hk : Past guardCode k) :
    Past badLengthCode (guarded r guard k) := by
  by_cases hguard : guard = 255 - r.sequence
  · rw [guarded_right hguard]
    cases hk with
    | executed hslot => exact .executed hslot
    | refused hlater => exact .refused (BitVec.lt_trans (by decide : badLengthCode < guardCode) hlater)
  · rw [guarded_wrong hguard]
    exact .refused (by decide)

end Past

/-! ### The answer to a request that stands -/

theorem getLast?_replyLog_answered (t : State) (sequence : Byte) (a : Answer) :
    (answered t sequence a).command.replyLog.getLast? = some { sequence := sequence, answer := a } := by
  rw [answered_eq, State.answerNew_command]
  exact List.getLast?_concat

/-- The state after an answer tells the answer: it is the newest of the log. -/
theorem answer_eq_of_answered_eq {t u : State} {sequence : Byte} {a b : Answer}
    (h : answered t sequence a = answered u sequence b) : a = b := by
  have hlast := getLast?_replyLog_answered t sequence a
  rw [h, getLast?_replyLog_answered] at hlast
  simpa using hlast.symm

section
variable {c : Instr} {s : State} {kind sequence : Byte} {payload : List Byte} {body : Request → State → Verdict} {code : Byte}
  (hc : exec c s = serve kind body s) (hs : Stands s kind sequence payload)
  (hpast : Past code (body { kind := kind, sequence := sequence, payload := payload } s.emptyIntake))
include hc hs hpast

theorem gives_answer_of_past :
    ∃ t a, Gives c s (answered t sequence a) ∧ ∀ kind' later detail, a = .refused kind' later detail → code < later := by
  cases hbody : body { kind := kind, sequence := sequence, payload := payload } s.emptyIntake with
  | executed t data =>
    rw [hbody] at hpast
    obtain ⟨hslot⟩ := hpast
    have hempty : t = t.emptyIntake := by rw [State.emptyIntake, ← hslot]
    exact ⟨t, _, replies_of_body_executed hc hs (hempty ▸ hbody), nofun⟩
  | refused later detail =>
    rw [hbody] at hpast
    obtain _ | hlater := hpast
    exact ⟨s, _, refuses_of_body_refused hc hs hbody, fun _ _ _ h => by cases h; exact hlater⟩

theorem not_refuses_of_past {earlier : Byte} (hearlier : earlier ≤ code) (kind' detail : Byte) :
    ¬ Refuses c s kind' sequence earlier detail := by
  intro hrefuses
  obtain ⟨t, a, hgives, hlater⟩ := gives_answer_of_past hc hs hpast
  have hanswer : a = .refused kind' earlier detail :=
    answer_eq_of_answered_eq (Host.Outcome.next.inj (hgives.symm.trans hrefuses))
  exact BitVec.not_lt.2 hearlier (hlater _ _ _ hanswer)

end

end Sys2Proof.Slice0
end

section
/-! SUPPORT. Requests that leave the link, or its intake slot, as it is. -/

namespace Sys2Proof.Machine

@[simp] theorem LinkUnit.cancelNotice_intake (l : LinkUnit) (notice : Byte) : (l.cancelNotice notice).intake = l.intake := by
  rw [LinkUnit.cancelNotice_eq]

theorem State.doneInnermost_intake (s : State) (e : Entry) (rest : List Entry) :
    (s.doneInnermost e rest).link.intake = s.link.intake := by
  cases hphase : e.phase <;> simp only [State.doneInnermost, hphase, LinkUnit.cancelNotice_intake]

theorem State.configureChannels_link (s : State) (edge : EdgeSelect) (code : Fin 8) (listed : List (Fin 32)) :
    (s.configureChannels edge code listed).link = s.link := by
  obtain ⟨-, -, -, -, -, -, -, -, -, hlink, -⟩ := State.foldl_report_frame
    (listed.filter fun n => (s.channel n).acceptsUnder code)
    { s with input := { s.input with
        channels := .ofFn fun n => if n ∈ listed then (s.channel n).configure edge code else s.channel n } }
  exact hlink

theorem State.evaluateStop_link (s : State) : s.evaluateStop.link = s.link := by
  obtain ⟨-, -, h⟩ | ⟨-, h⟩ := s.evaluateStop_cases <;> rw [h]

end Sys2Proof.Machine
end

section
/-! PROOFS. The checks before the fields: kind and length (R154), and the guard (R155). -/

namespace Sys2Proof.Slice0

open Sys2Proof.Machine

/-! ### Reading a payload of a fixed length -/

/-- A verdict on every payload: `wrong` where the length is none of these, and past the length check where it is one. -/
def ChecksLength (lengths : List Nat) (verdict wrong : List Byte → Verdict) : Prop :=
  ∀ payload, (payload.length ∉ lengths → verdict payload = wrong payload) ∧
    (payload.length ∈ lengths → Past badLengthCode (verdict payload))

namespace ChecksLength

variable {verdict wrong : List Byte → Verdict}

/-- The payload is read to its end. -/
theorem done (hwrong : ∀ b rest, verdict (b :: rest) = wrong (b :: rest)) (hpast : Past badLengthCode (verdict [])) :
    ChecksLength [0] verdict wrong
  | [] => ⟨fun hlength => absurd List.mem_cons_self hlength, fun _ => hpast⟩
  | b :: rest => ⟨fun _ => hwrong b rest, fun hlength => by simp at hlength⟩

/-- One more byte is read. -/
theorem byte {n : Nat} (hwrong : verdict [] = wrong [])
    (hrest : ∀ b, ChecksLength [n] (fun rest => verdict (b :: rest)) (fun rest => wrong (b :: rest))) :
    ChecksLength [n + 1] verdict wrong
  | [] => ⟨fun _ => hwrong, fun hlength => by simp at hlength⟩
  | b :: rest => by simpa using hrest b rest

end ChecksLength

/-- A body that checks the length before anything else, from a state whose slot has been emptied. -/
def BodyChecksLength (lengths : List Nat) (body : Request → State → Verdict) : Prop :=
  ∀ (kind sequence : Byte) (s : State), s.link.intake = none →
    ChecksLength lengths (fun payload => body ⟨kind, sequence, payload⟩ s)
      (fun payload => badLength ⟨kind, sequence, payload⟩)

/-- A field check comes past the length check. -/
theorem past_length_field {α : Type} {offset : Nat} {value? : Option α} {k : α → Verdict}
    (hk : ∀ a, Past badLengthCode (k a)) : Past badLengthCode (field offset value? k) :=
  .field (by decide) hk

/-! ### Requests with no payload -/

theorem pingBody_checksLength : BodyChecksLength [0] pingBody :=
  fun _ _ _ hslot => .done (fun _ _ => rfl) (.executed hslot)

theorem readStackBody_checksLength : BodyChecksLength [0] readStackBody :=
  fun _ _ _ hslot => .done (fun _ _ => rfl) (.executed hslot)

theorem readInputsBody_checksLength : BodyChecksLength [0] readInputsBody :=
  fun _ _ _ hslot => .done (fun _ _ => rfl) (.executed hslot)

theorem getTimeBody_checksLength : BodyChecksLength [0] getTimeBody :=
  fun _ _ _ hslot => .done (fun _ _ => rfl) (.executed hslot)

theorem holdOutputsBody_checksLength : BodyChecksLength [0] holdOutputsBody :=
  fun _ _ _ hslot => .done (fun _ _ => rfl) (.executed hslot)

/-! ### Requests with one byte -/

theorem getSourceBody_checksLength : BodyChecksLength [1] getSourceBody :=
  fun _ _ _ hslot => .byte rfl fun _ => .done (fun _ _ => rfl) (past_length_field fun _ => .executed hslot)

theorem clearSourceBody_checksLength : BodyChecksLength [1] clearSourceBody :=
  fun _ _ _ hslot => .byte rfl fun _ => .done (fun _ _ => rfl) (past_length_field fun _ => .executed hslot)

theorem getTimerBody_checksLength : BodyChecksLength [1] getTimerBody :=
  fun _ _ _ hslot => .byte rfl fun _ => .done (fun _ _ => rfl) (past_length_field fun _ => .executed hslot)

theorem discardRingBody_checksLength : BodyChecksLength [1] discardRingBody :=
  fun _ _ _ hslot => .byte rfl fun _ => .done (fun _ _ => rfl) (past_length_field fun _ => .executed hslot)

theorem gateBody_checksLength : BodyChecksLength [1] gateBody := by
  refine fun _ _ s hslot => .byte rfl fun _ => .done (fun _ _ => rfl) (past_length_field fun _ => ?_)
  split
  · exact .refused (by decide)
  · exact .executed hslot

theorem takeAgain_past_length {s : State} (hslot : s.link.intake = none) (notice : Byte) :
    Past badLengthCode (takeAgain notice s) := by
  unfold takeAgain
  split
  · exact .executed hslot
  · exact .refused (by decide)

theorem takeBody_checksLength : BodyChecksLength [1] takeBody := by
  refine fun _ _ s hslot => .byte rfl fun notice => .done (fun _ _ => rfl) ?_
  unfold takeBody
  dsimp only
  split
  · split
    · exact .executed (by rw [State.takeInnermost, LinkUnit.cancelNotice_intake, hslot])
    · exact takeAgain_past_length hslot notice
  · exact takeAgain_past_length hslot notice

theorem doneBody_checksLength : BodyChecksLength [1] doneBody := by
  refine fun _ _ s hslot => .byte rfl fun _ => .done (fun _ _ => rfl) (past_length_field fun _ => ?_)
  split
  · split
    · exact .executed (by rw [State.doneInnermost_intake, hslot])
    · split <;> exact .refused (by decide)
  · exact .refused (by decide)

/-! ### Requests with more bytes -/

theorem drainRingBody_checksLength : BodyChecksLength [2] drainRingBody :=
  fun _ _ _ hslot => .byte rfl fun _ => .byte rfl fun _ => .done (fun _ _ => rfl)
    (past_length_field fun _ => past_length_field fun _ => .executed hslot)

theorem setOutputsBody_checksLength : BodyChecksLength [2] setOutputsBody := by
  refine fun kind sequence s hslot => .byte rfl fun mask => .byte rfl fun values => .done (fun _ _ => rfl) ?_
  cases hmode : s.output.mode with
  | live => rw [setOutputsBody_of_live _ _ _ _ _ hmode]; exact .executed hslot
  | safeHeld => rw [setOutputsBody_of_safeHeld _ _ _ _ _ hmode]; exact .refused (by decide)

theorem setDeliveryBody_checksLength : BodyChecksLength [3] setDeliveryBody :=
  fun _ _ _ hslot => .byte rfl fun _ => .byte rfl fun _ => .byte rfl fun _ => .done (fun _ _ => rfl)
    (past_length_field fun _ => past_length_field fun _ => past_length_field fun _ => .executed hslot)

theorem setRingBody_checksLength : BodyChecksLength [3] setRingBody :=
  fun _ _ _ hslot => .byte rfl fun _ => .byte rfl fun _ => .byte rfl fun _ => .done (fun _ _ => rfl)
    (past_length_field fun _ => past_length_field fun _ => past_length_field fun _ => .executed hslot)

theorem setTimeBody_checksLength : BodyChecksLength [4] setTimeBody :=
  fun _ _ _ hslot => .byte rfl fun _ => .byte rfl fun _ => .byte rfl fun _ => .byte rfl fun _ => .done (fun _ _ => rfl)
    (.executed hslot)

theorem setTimerBody_checksLength : BodyChecksLength [5] setTimerBody :=
  fun _ _ _ hslot => .byte rfl fun _ => .byte rfl fun _ => .byte rfl fun _ => .byte rfl fun _ => .byte rfl fun _ =>
    .done (fun _ _ => rfl)
      (past_length_field fun _ => past_length_field fun _ => past_length_field fun _ => past_length_field fun _ =>
        past_length_field fun _ => .executed hslot)

theorem setSourceBody_checksLength : BodyChecksLength [6] setSourceBody := by
  refine fun _ _ s hslot => .byte rfl fun _ => .byte rfl fun _ => .byte rfl fun _ => .byte rfl fun _ => .byte rfl fun _ =>
    .byte rfl fun _ => .done (fun _ _ => rfl)
      (past_length_field fun _ => past_length_field fun _ => past_length_field fun _ => past_length_field fun _ =>
        past_length_field fun _ => past_length_field fun _ => ?_)
  split
  · exact .refused (by decide)
  · exact .executed hslot

/-! ### Requests with a list -/

theorem mem_lengths_iff {n m k : Nat} : k ∈ (List.range n).map (· + m) ↔ m ≤ k ∧ k < n + m := by
  simp only [List.mem_map, List.mem_range]
  exact ⟨by omega, fun hk => ⟨k - m, by omega, by omega⟩⟩

theorem maskListBody_checksLength : BodyChecksLength ((List.range 40).map (· + 2)) maskListBody := by
  intro kind sequence s hslot payload
  rw [mem_lengths_iff]
  cases payload with
  | nil => exact ⟨fun _ => rfl, fun hlength => absurd hlength (by decide)⟩
  | cons mask list =>
    have hlist : list = [] ∨ 40 < list.length ↔ ¬ (2 ≤ (mask :: list).length ∧ (mask :: list).length < 42) := by
      rw [← List.length_eq_zero_iff, List.length_cons]
      omega
    refine ⟨fun hlength => if_pos (hlist.2 hlength), fun hlength => ?_⟩
    simp only [maskListBody, if_neg (mt hlist.1 (not_not_intro hlength))]
    refine past_length_field fun _ => ?_
    split
    · exact .refused (by decide)
    · split
      · exact .refused (by decide)
      · exact .executed hslot

theorem setInputBody_checksLength : BodyChecksLength ((List.range 32).map (· + 3)) setInputBody := by
  intro kind sequence s hslot payload
  rw [mem_lengths_iff]
  match payload with
  | [] | [_] => exact ⟨fun _ => rfl, fun hlength => absurd hlength.1 (by simp)⟩
  | edge :: code :: list =>
    have hlist : list = [] ∨ 32 < list.length ↔
        ¬ (3 ≤ (edge :: code :: list).length ∧ (edge :: code :: list).length < 35) := by
      rw [← List.length_eq_zero_iff, List.length_cons, List.length_cons]
      omega
    refine ⟨fun hlength => if_pos (hlist.2 hlength), fun hlength => ?_⟩
    simp only [setInputBody, if_neg (mt hlist.1 (not_not_intro hlength))]
    refine past_length_field fun _ => past_length_field fun _ => ?_
    split
    · exact .refused (by decide)
    · exact .executed (by rw [State.configureChannels_link, hslot])

/-! ### Guarded requests -/

/-- A body that checks the guard before any field: past it, the verdict comes past the guard check (R155). -/
def BodyChecksGuard (length : Nat) (body : Request → State → Verdict) : Prop :=
  ∀ (kind sequence : Byte) (s : State), s.link.intake = none →
    ∀ guard fields, fields.length + 1 = length →
      ∃ rest, body ⟨kind, sequence, guard :: fields⟩ s = guarded ⟨kind, sequence, guard :: fields⟩ guard rest ∧
        Past guardCode rest

theorem releaseOutputsBody_checksGuard : BodyChecksGuard 2 releaseOutputsBody
  | _, _, s, hslot, guard, [pattern], _ => by
    refine ⟨_, rfl, ?_⟩
    split
    · exact .refused (by decide)
    · exact .executed hslot

theorem setSafeBody_checksGuard : BodyChecksGuard 2 setSafeBody
  | _, _, _, hslot, _, [_], _ => ⟨_, rfl, .executed hslot⟩

theorem setSilenceBody_checksGuard : BodyChecksGuard 2 setSilenceBody
  | _, _, _, hslot, _, [_], _ => ⟨_, rfl, .executed hslot⟩

theorem restartBody_checksGuard : BodyChecksGuard 1 restartBody
  | _, _, _, hslot, _, [], _ => ⟨_, rfl, .executed hslot⟩

theorem setStopBody_checksGuard : BodyChecksGuard 4 setStopBody
  | _, _, _, hslot, _, [_, _, _], _ =>
    ⟨_, rfl, .field (by decide) fun _ => .field (by decide) fun _ => .field (by decide) fun _ =>
      .executed (by rw [State.evaluateStop_link]; exact hslot)⟩

/-- The guard check comes past the length check. -/
theorem BodyChecksGuard.past_length {length : Nat} {body : Request → State → Verdict} (h : BodyChecksGuard length body)
    {s : State} (hslot : s.link.intake = none) (kind sequence guard : Byte) {fields : List Byte}
    (hlength : fields.length + 1 = length) : Past badLengthCode (body ⟨kind, sequence, guard :: fields⟩ s) := by
  obtain ⟨rest, hbody, hrest⟩ := h kind sequence s hslot guard fields hlength
  exact hbody ▸ .guarded hrest

theorem releaseOutputsBody_checksLength : BodyChecksLength [2] releaseOutputsBody :=
  fun _ _ _ hslot => .byte rfl fun _ => .byte rfl fun _ => .done (fun _ _ => rfl)
    (releaseOutputsBody_checksGuard.past_length hslot _ _ _ rfl)

theorem setSafeBody_checksLength : BodyChecksLength [2] setSafeBody :=
  fun _ _ _ hslot => .byte rfl fun _ => .byte rfl fun _ => .done (fun _ _ => rfl)
    (setSafeBody_checksGuard.past_length hslot _ _ _ rfl)

theorem setSilenceBody_checksLength : BodyChecksLength [2] setSilenceBody :=
  fun _ _ _ hslot => .byte rfl fun _ => .byte rfl fun _ => .done (fun _ _ => rfl)
    (setSilenceBody_checksGuard.past_length hslot _ _ _ rfl)

theorem setStopBody_checksLength : BodyChecksLength [4] setStopBody :=
  fun _ _ _ hslot => .byte rfl fun _ => .byte rfl fun _ => .byte rfl fun _ => .byte rfl fun _ => .done (fun _ _ => rfl)
    (setStopBody_checksGuard.past_length hslot _ _ _ rfl)

theorem restartBody_checksLength : BodyChecksLength [1] restartBody :=
  fun _ _ _ hslot => .byte rfl fun _ => .done (fun _ _ => rfl)
    (restartBody_checksGuard.past_length hslot _ _ _ rfl)

/-! ### The rows of the tables -/

/-- The row serves its kind through a body that checks its lengths. -/
def ServesLengths (row : Instr × Byte × List Nat) : Prop :=
  ∃ body, (∀ s, exec row.1 s = serve row.2.1 body s) ∧ BodyChecksLength row.2.2 body

theorem servesLengths_of_mem_requestTable : ∀ row ∈ requestTable, ServesLengths row := by
  simp only [requestTable, List.forall_mem_cons]
  exact ⟨⟨_, fun _ => rfl, pingBody_checksLength⟩, ⟨_, fun _ => rfl, setSourceBody_checksLength⟩,
    ⟨_, fun _ => rfl, getSourceBody_checksLength⟩, ⟨_, fun _ => rfl, maskListBody_checksLength⟩,
    ⟨_, fun _ => rfl, clearSourceBody_checksLength⟩, ⟨_, fun _ => rfl, setDeliveryBody_checksLength⟩,
    ⟨_, fun _ => rfl, readStackBody_checksLength⟩, ⟨_, fun _ => rfl, gateBody_checksLength⟩,
    ⟨_, fun _ => rfl, takeBody_checksLength⟩, ⟨_, fun _ => rfl, doneBody_checksLength⟩,
    ⟨_, fun _ => rfl, setInputBody_checksLength⟩, ⟨_, fun _ => rfl, readInputsBody_checksLength⟩,
    ⟨_, fun _ => rfl, setTimerBody_checksLength⟩, ⟨_, fun _ => rfl, getTimerBody_checksLength⟩,
    ⟨_, fun _ => rfl, setTimeBody_checksLength⟩, ⟨_, fun _ => rfl, getTimeBody_checksLength⟩,
    ⟨_, fun _ => rfl, setRingBody_checksLength⟩, ⟨_, fun _ => rfl, drainRingBody_checksLength⟩,
    ⟨_, fun _ => rfl, discardRingBody_checksLength⟩, ⟨_, fun _ => rfl, setOutputsBody_checksLength⟩,
    ⟨_, fun _ => rfl, holdOutputsBody_checksLength⟩, ⟨_, fun _ => rfl, releaseOutputsBody_checksLength⟩,
    ⟨_, fun _ => rfl, setSafeBody_checksLength⟩, ⟨_, fun _ => rfl, setStopBody_checksLength⟩,
    ⟨_, fun _ => rfl, setSilenceBody_checksLength⟩, ⟨_, fun _ => rfl, restartBody_checksLength⟩, by simp⟩

/-- The row serves its kind through a body that checks its length and then the guard. -/
def ServesGuarded (row : Instr × Byte × Nat) : Prop :=
  ∃ body, (∀ s, exec row.1 s = serve row.2.1 body s) ∧ BodyChecksLength [row.2.2] body ∧ BodyChecksGuard row.2.2 body

theorem servesGuarded_of_mem_guardedTable : ∀ row ∈ guardedTable, ServesGuarded row := by
  simp only [guardedTable, List.forall_mem_cons]
  exact ⟨⟨_, fun _ => rfl, releaseOutputsBody_checksLength, releaseOutputsBody_checksGuard⟩,
    ⟨_, fun _ => rfl, setSafeBody_checksLength, setSafeBody_checksGuard⟩,
    ⟨_, fun _ => rfl, setStopBody_checksLength, setStopBody_checksGuard⟩,
    ⟨_, fun _ => rfl, setSilenceBody_checksLength, setSilenceBody_checksGuard⟩,
    ⟨_, fun _ => rfl, restartBody_checksLength, restartBody_checksGuard⟩, by simp⟩

/-! ### BAD_KIND -/

theorem isRequestKind_eq_false {kind : Byte} (h : kind = 0 ∨ 0x1B ≤ kind.toNat) : isRequestKind kind = false := by
  rw [isRequestKind, Bool.and_eq_false_iff, decide_eq_false_iff_not, decide_eq_false_iff_not]
  exact h.imp (by rintro rfl; decide) (by omega)

theorem badKind_refuses {s : State} {kind sequence : Byte} {payload : List Byte} (hs : Stands s kind sequence payload)
    (hkind : isRequestKind kind = false) : Refuses .badKind s kind sequence 0x01 0 := by
  change execBadKind s = _
  rw [execBadKind, newRequest?_of_stands hs, answered_eq]
  simp only [hkind]
  rfl

end Sys2Proof.Slice0

open Sys2Proof Sys2Proof.Machine Sys2Proof.Slice0

/-- Settles O41: BAD_KIND looks at the kind alone, and each row's body checks the length before anything else. -/
theorem kindAndLengthAreCheckedFirst : Obligations.KindAndLengthAreCheckedFirst := by
  refine ⟨fun s kind sequence payload hs hkind => badKind_refuses hs (isRequestKind_eq_false hkind),
    fun c kind lengths hrow s sequence payload hs => ?_⟩
  obtain ⟨body, hserve, hchecks⟩ := servesLengths_of_mem_requestTable _ hrow
  obtain ⟨hwrong, hright⟩ := hchecks kind sequence s.emptyIntake rfl payload
  refine ⟨fun hlength => refuses_of_body_refused (hserve s) hs (hwrong hlength), fun hlength detail => ⟨?length, ?kind⟩⟩
  case length => exact not_refuses_of_past (hserve s) hs (hright hlength) (by decide) _ _
  case kind => exact not_refuses_of_past (hserve s) hs (hright hlength) (by decide) _ _

/-- Settles O42: past the length each guarded row's body is the guard check of its first byte, whatever comes after it. -/
theorem theGuardIsCheckedBeforeTheFields : Obligations.TheGuardIsCheckedBeforeTheFields := by
  intro c kind length hrow s sequence guard fields
  obtain ⟨body, hserve, hlengths, hguards⟩ := servesGuarded_of_mem_guardedTable _ hrow
  refine ⟨fun hs hlength hguard => ?wrong, fun payload hs hlength => ?length, fun hs hlength hguard => ?right⟩
  case wrong =>
    obtain ⟨rest, hbody, -⟩ := hguards kind sequence s.emptyIntake rfl guard fields hlength
    exact refuses_of_body_refused (hserve s) hs (hbody.trans (guarded_wrong (mt (complement_iff _ _).1 hguard) rest))
  case length =>
    exact refuses_of_body_refused (hserve s) hs ((hlengths kind sequence s.emptyIntake rfl payload).1 (by simpa using hlength))
  case right =>
    obtain ⟨rest, hbody, hrest⟩ := hguards kind sequence s.emptyIntake rfl guard fields hlength
    have hpast := (hbody.trans (guarded_right ((complement_iff _ _).2 hguard) rest)).symm ▸ hrest
    obtain ⟨t, a, hgives, -⟩ := gives_answer_of_past (hserve s) hs hpast
    exact ⟨not_refuses_of_past (hserve s) hs hpast (by decide) _ _, t, a, hgives⟩
end

section
/-! PROOFS. The command unit's own requests (9.3): PING. -/

namespace Sys2Proof.Slice0

open Sys2Proof.Machine

theorem boolCode_offered? (d : DeliveryUnit) :
    boolCode d.offered?.isSome = if ∃ e ∈ d.stack, e.phase = .offered then 1 else 0 := by
  simp only [boolCode, DeliveryUnit.offered?, List.find?_isSome, decide_eq_true_eq]

theorem pendingCount_eq (s : State) :
    s.pendingCount =
      ((List.finRange 42).filter fun n =>
        decide ((s.source n).account ≠ none ∧ ((s.source n).mask = .unmasked ∨ 40 ≤ n.val))).length := by
  have hcounted (n : Fin 42) :
      ((s.source n).isPending && (isUrgent n || decide ((s.source n).mask = .unmasked))) =
        decide ((s.source n).account ≠ none ∧ ((s.source n).mask = .unmasked ∨ 40 ≤ n.val)) := by
    rw [Bool.eq_iff_iff]
    simp [SourceRecord.isPending, isUrgent, Option.isSome_iff_ne_none, or_comm]
  simp only [State.pendingCount, sourceNumbers, hcounted]

theorem pingBody_of_no_payload (s : State) (kind sequence : Byte) :
    pingBody ⟨kind, sequence, []⟩ s =
      .executed s
        [2, s.command.lastReset.code, s.delivery.mode.code, s.delivery.gate.code, byteOf s.delivery.stack.length,
          (if ∃ e ∈ s.delivery.stack, e.phase = .offered then 1 else 0),
          byteOf ((List.finRange 42).filter fun n =>
            decide ((s.source n).account ≠ none ∧ ((s.source n).mask = .unmasked ∨ 40 ≤ n.val))).length,
          s.output.mode.code, s.output.causes.code] := by
  rw [← boolCode_offered?, ← pendingCount_eq]
  rfl

end Sys2Proof.Slice0

open Sys2Proof Sys2Proof.Machine Sys2Proof.Slice0

/-- Settles O43: the body executes on the state as it stands, and its nine bytes are R162's. -/
theorem pingReportsThePart : Obligations.PingReportsThePart := by
  intro s sequence hs
  refine replies_of_body_executed rfl hs ((pingBody_of_no_payload s.emptyIntake 0x01 sequence).trans ?_)
  cases hreset : s.command.lastReset <;> rw [State.emptyIntake_command, hreset] <;> rfl
end

section
/-! SUPPORT. The parts of the state that the rules move one by one, and what it says that two states agree but for some of them. -/

namespace Sys2Proof.Machine

/-- A part of the state that some commands move and the others leave alone. -/
inductive Part where
  | held | channels | stopPin | timeBase | timers | triggers | sources | occurrences | capture | delivery
  /-- STOP enable, STOP active level and STOP filter code. -/
  | stopSettings
  | stopActive
  /-- The silence timeout and the silence timer. -/
  | silence
  | output
  /-- The line rate, the line state and the gap interval. -/
  | line
  /-- The frame state and the assembly buffer. -/
  | assembly
  | intake | notes | noticeSlot | sending | replyQueue | replyLog | window
  /-- The last reset cause and the START notice. -/
  | startUp
  | choices | pending
  deriving DecidableEq

/-- What a part holds. -/
abbrev Part.Value : Part → Type
  | .held => Bool
  | .channels => Table 32 Channel
  | .stopPin => StopPin
  | .timeBase => Time
  | .timers => Table 4 IntervalTimer
  | .triggers => List TriggerInTransit
  | .sources => Table 42 SourceRecord
  | .occurrences => List OccurrenceInTransit
  | .capture => CaptureUnit
  | .delivery => DeliveryUnit
  | .stopSettings => Bool × Bool × Fin 8
  | .stopActive => Bool
  | .silence => Nat × Option Nat
  | .output => OutputUnit
  | .line => BitVec 2 × LineState × Nat
  | .assembly => FrameState × List Byte
  | .intake => Option Request
  | .notes => Notes
  | .noticeSlot => Option EventNotice
  | .sending => Option Sending
  | .replyQueue => List AnswerFrame
  | .replyLog => List LogEntry
  | .window => Bool
  | .startUp => ResetCause × Option StartNotice
  | .choices => Nat
  | .pending => List Instr

/-- What a part holds in a state. -/
@[simp] def Part.read (s : State) : (p : Part) → p.Value
  | .held => s.held
  | .channels => s.input.channels
  | .stopPin => s.input.stop
  | .timeBase => s.timer.timeBase
  | .timers => s.timer.timers
  | .triggers => s.timer.arriving
  | .sources => s.event.sources
  | .occurrences => s.event.arriving
  | .capture => s.capture
  | .delivery => s.delivery
  | .stopSettings => (s.protection.stopEnable, s.protection.stopActiveLevel, s.protection.stopCode)
  | .stopActive => s.protection.stopActive
  | .silence => (s.protection.silenceTimeout, s.protection.silenceTimer)
  | .output => s.output
  | .line => (s.link.rate, s.link.line, s.link.gap)
  | .assembly => (s.link.frame, s.link.buffer)
  | .intake => s.link.intake
  | .notes => s.link.notes
  | .noticeSlot => s.link.noticeSlot
  | .sending => s.link.sending
  | .replyQueue => s.command.replyQueue
  | .replyLog => s.command.replyLog
  | .window => s.command.window
  | .startUp => (s.command.lastReset, s.command.startNotice)
  | .choices => s.choices
  | .pending => s.pending

/-- The second state has every part of the first but perhaps these. -/
def SameBut (parts : List Part) (s t : State) : Prop := ∀ p, p ∉ parts → p.read t = p.read s

namespace SameBut

variable {parts more : List Part} {s t u : State}

theorem refl (parts : List Part) (s : State) : SameBut parts s s := fun _ _ => rfl

theorem trans (h : SameBut parts s t) (h' : SameBut parts t u) : SameBut parts s u :=
  fun p hp => (h' p hp).trans (h p hp)

theorem mono (h : SameBut parts s t) (hsub : parts ⊆ more) : SameBut more s t := fun p hp => h p (mt (@hsub p) hp)

theorem held (h : SameBut parts s t) (hp : Part.held ∉ parts) : t.held = s.held := h _ hp

theorem channel (h : SameBut parts s t) (hp : Part.channels ∉ parts) (n : Fin 32) : t.channel n = s.channel n :=
  State.channel_congr (h _ hp) n

theorem stopPin (h : SameBut parts s t) (hp : Part.stopPin ∉ parts) : t.input.stop = s.input.stop := h _ hp

theorem timers (h : SameBut parts s t) (hp : Part.timers ∉ parts) (n : Fin 4) : t.intervalTimer n = s.intervalTimer n :=
  State.intervalTimer_congr (h _ hp) n

theorem triggers (h : SameBut parts s t) (hp : Part.triggers ∉ parts) : t.timer.arriving = s.timer.arriving := h _ hp

theorem source (h : SameBut parts s t) (hp : Part.sources ∉ parts) (n : Fin 42) : t.source n = s.source n :=
  State.source_congr (h _ hp) n

theorem occurrences (h : SameBut parts s t) (hp : Part.occurrences ∉ parts) : t.event.arriving = s.event.arriving := h _ hp

theorem ring (h : SameBut parts s t) (hp : Part.capture ∉ parts) (n : Fin 4) : t.ring n = s.ring n :=
  State.ring_congr (h _ hp) n

theorem delivery (h : SameBut parts s t) (hp : Part.delivery ∉ parts) : t.delivery = s.delivery := h _ hp

theorem stopSettings (h : SameBut parts s t) (hp : Part.stopSettings ∉ parts) :
    t.protection.stopEnable = s.protection.stopEnable ∧ t.protection.stopActiveLevel = s.protection.stopActiveLevel ∧
      t.protection.stopCode = s.protection.stopCode := by
  simpa only [Part.read, Prod.mk.injEq] using h _ hp

theorem stopActive (h : SameBut parts s t) (hp : Part.stopActive ∉ parts) :
    t.protection.stopActive = s.protection.stopActive := h _ hp

theorem output (h : SameBut parts s t) (hp : Part.output ∉ parts) : t.output = s.output := h _ hp

theorem assembly (h : SameBut parts s t) (hp : Part.assembly ∉ parts) :
    t.link.frame = s.link.frame ∧ t.link.buffer = s.link.buffer := by
  simpa only [Part.read, Prod.mk.injEq] using h _ hp

theorem intake (h : SameBut parts s t) (hp : Part.intake ∉ parts) : t.link.intake = s.link.intake := h _ hp

theorem noticeSlot (h : SameBut parts s t) (hp : Part.noticeSlot ∉ parts) : t.link.noticeSlot = s.link.noticeSlot := h _ hp

theorem sending (h : SameBut parts s t) (hp : Part.sending ∉ parts) : t.link.sending = s.link.sending := h _ hp

theorem replyQueue (h : SameBut parts s t) (hp : Part.replyQueue ∉ parts) :
    t.command.replyQueue = s.command.replyQueue := h _ hp

theorem replyLog (h : SameBut parts s t) (hp : Part.replyLog ∉ parts) : t.command.replyLog = s.command.replyLog := h _ hp

theorem window (h : SameBut parts s t) (hp : Part.window ∉ parts) : t.command.window = s.command.window := h _ hp

theorem choices (h : SameBut parts s t) (hp : Part.choices ∉ parts) : t.choices = s.choices := h _ hp

theorem pending (h : SameBut parts s t) (hp : Part.pending ∉ parts) : t.pending = s.pending := h _ hp

end SameBut

/-! ### What the named updates and the shared operations touch -/

section
variable (s : State)

theorem State.setSource_sameBut (n : Fin 42) (r : SourceRecord) : SameBut [.sources] s (s.setSource n r) := by
  intro p hp
  cases p <;> simp_all [Part.read]

theorem State.maskSources_sameBut (m : Mask) (listed : List (Fin 42)) : SameBut [.sources] s (s.maskSources m listed) := by
  intro p hp
  cases p <;> simp_all [Part.read, State.maskSources]

theorem State.setRingTo_sameBut (n : Fin 4) (r : Ring) : SameBut [.capture] s (s.setRingTo n r) := by
  intro p hp
  cases p <;> simp_all [Part.read]

theorem State.setChannel_sameBut (n : Fin 32) (c : Channel) : SameBut [.channels] s (s.setChannel n c) := by
  intro p hp
  cases p <;> simp_all [Part.read]

theorem State.setStopPin_sameBut (q : StopPin) : SameBut [.stopPin] s (s.setStopPin q) := by
  intro p hp
  cases p <;> simp_all [Part.read]

theorem State.setIntervalTimer_sameBut (n : Fin 4) (x : IntervalTimer) : SameBut [.timers] s (s.setIntervalTimer n x) := by
  intro p hp
  cases p <;> simp_all [Part.read]

theorem State.raise_sameBut (o : Occurrence) : SameBut [.occurrences] s (s.raise o) := by
  intro p hp
  cases p <;> simp_all [Part.read]

theorem State.holdClaim_sameBut (c : HoldCause) : SameBut [.output] s (s.holdClaim c) := by
  intro p hp
  cases p <;> simp_all [Part.read]

theorem State.emptyIntake_sameBut : SameBut [.intake] s s.emptyIntake := by
  intro p hp
  cases p <;> simp_all [Part.read]

theorem State.queueAnswer_sameBut (q : Byte) (a : Answer) : SameBut [.notes, .replyQueue] s (s.queueAnswer q a) := by
  intro p hp
  cases p <;> simp_all [Part.read]

theorem State.answerNew_sameBut (q : Byte) (a : Answer) :
    SameBut [.notes, .replyQueue, .replyLog] s (s.answerNew q a) := by
  intro p hp
  cases p <;> simp_all [Part.read]

theorem State.report_sameBut (n : Fin 32) : SameBut [.occurrences, .triggers] s (s.report n) := by
  unfold State.report
  dsimp only
  split
  · intro p hp
    cases p <;> simp_all [Part.read]
  · exact .refl _ s

theorem State.acceptChange_sameBut (n : Fin 32) :
    SameBut [.channels, .occurrences, .triggers] s (s.acceptChange n) :=
  ((s.setChannel_sameBut n _).mono (by simp)).trans ((State.report_sameBut _ n).mono (by simp))

theorem State.foldl_report_sameBut (list : List (Fin 32)) :
    SameBut [.occurrences, .triggers] s (list.foldl State.report s) := by
  induction list generalizing s with
  | nil => exact .refl _ s
  | cons n rest ih => exact (s.report_sameBut n).trans (ih _)

theorem State.configureChannels_sameBut (edge : EdgeSelect) (code : Fin 8) (listed : List (Fin 32)) :
    SameBut [.channels, .occurrences, .triggers] s (s.configureChannels edge code listed) := by
  refine SameBut.trans (t := { s with input := { s.input with
    channels := .ofFn fun n => if n ∈ listed then (s.channel n).configure edge code else s.channel n } }) ?_
    ((State.foldl_report_sameBut _ _).mono (by simp))
  intro p hp
  cases p <;> simp_all [Part.read]

theorem State.evaluateStop_sameBut : SameBut [.stopActive, .output, .occurrences] s s.evaluateStop := by
  intro p hp
  obtain ⟨-, -, h⟩ | ⟨-, h⟩ := s.evaluateStop_cases <;> rw [h] <;> cases p <;> simp_all [Part.read]

theorem State.acceptStop_sameBut : SameBut [.stopPin, .stopActive, .output, .occurrences] s s.acceptStop :=
  ((s.setStopPin_sameBut _).mono (by simp)).trans ((State.evaluateStop_sameBut _).mono (by simp))

theorem State.captureClaim_sameBut (n : Fin 42) (c : Claim) :
    SameBut [.sources, .occurrences, .capture] s (s.captureClaim n c) := by
  obtain ⟨-, h⟩ | ⟨-, t, rfl, h | h⟩ := s.captureClaim_cases n c <;> rw [h]
  · exact (s.setSource_sameBut n _).mono (by simp)
  · exact ((s.setRingTo_sameBut _ _).mono (by simp)).trans ((State.setSource_sameBut _ n _).mono (by simp))
  · exact (((s.setRingTo_sameBut _ _).mono (by simp)).trans ((State.setSource_sameBut _ n _).mono (by simp))).trans
      ((State.raise_sameBut _ _).mono (by simp))

theorem State.arrive_sameBut (o : Occurrence) : SameBut [.sources, .occurrences, .capture] s (s.arrive o) := by
  obtain h | ⟨c, -, -, -, h⟩ := s.arrive_cases o <;> rw [h]
  · exact (s.setSource_sameBut _ _).mono (by simp)
  · exact s.captureClaim_sameBut _ c

theorem State.stopCheck_sameBut :
    SameBut [.stopActive, .output, .sources, .occurrences, .capture] s s.stopCheck := by
  have hchecked : SameBut [.stopActive] s { s with protection := { s.protection with stopActive := s.stopCondition } } := by
    intro p hp
    cases p <;> simp_all [Part.read]
  unfold State.stopCheck
  dsimp only
  split
  · exact ((hchecked.mono (by simp)).trans ((State.holdClaim_sameBut _ _).mono (by simp))).trans
      ((State.arrive_sameBut _ _).mono (by simp))
  · exact hchecked.mono (by simp)

theorem State.raiseStart_sameBut (c : ResetCause) : SameBut [.startUp] s (s.raiseStart c) := by
  intro p hp
  cases p <;> simp_all [Part.read, State.raiseStart]

theorem State.offer_sameBut (n : Fin 42) (a : Account) :
    SameBut [.sources, .delivery, .noticeSlot] s (s.offer n a) := by
  intro p hp
  cases p <;> simp_all [Part.read, State.offer]

theorem State.resend_sameBut (e : Entry) (rest : List Entry) : SameBut [.delivery, .noticeSlot] s (s.resend e rest) := by
  intro p hp
  cases p <;> simp_all [Part.read, State.resend]

theorem State.withdraw_sameBut (e : Entry) (rest : List Entry) : SameBut [.sources, .delivery] s (s.withdraw e rest) := by
  intro p hp
  cases p <;> simp_all [Part.read, State.withdraw]

theorem State.takeInnermost_sameBut (e : Entry) (rest : List Entry) :
    SameBut [.delivery, .noticeSlot] s (s.takeInnermost e rest) := by
  intro p hp
  cases p <;> simp_all [Part.read, State.takeInnermost, LinkUnit.cancelNotice_eq]

theorem State.doneInnermost_sameBut (e : Entry) (rest : List Entry) :
    SameBut [.delivery, .noticeSlot] s (s.doneInnermost e rest) := by
  intro p hp
  unfold State.doneInnermost
  cases e.phase <;> cases p <;> simp_all [Part.read, LinkUnit.cancelNotice_eq]

theorem State.validSignal_sameBut : SameBut [.silence, .delivery, .notes] s s.validSignal := by
  have hwatched : SameBut [.silence] s
      (if s.protection.silenceTimeout = 0 then s
      else { s with protection := { s.protection with
        silenceTimer := silenceTimerFor s.protection.silenceTimeout } }) := by
    intro p hp
    split <;> cases p <;> simp_all [Part.read]
  unfold State.validSignal
  dsimp only
  split
  · exact hwatched.mono (by simp)
  · refine (hwatched.mono (by simp)).trans fun p hp => ?_
    split <;> cases p <;> simp_all [Part.read]

theorem State.dispose_sameBut (r : Request) : SameBut [.intake, .notes] s (s.dispose r) := by
  intro p hp
  obtain h | ⟨-, -, h⟩ | ⟨-, -, h⟩ := s.dispose_cases r <;> rw [h]
  all_goals cases p <;> simp_all [Part.read]

theorem State.discardFrame_sameBut (conditions : List Note) :
    SameBut [.assembly, .notes] s { s with link := s.link.discardFrame conditions } := by
  intro p hp
  cases p <;> simp_all [Part.read, LinkUnit.discardFrame]

theorem State.restartNow_sameBut :
    SameBut [.channels, .timers, .triggers, .sources, .occurrences, .capture, .delivery, .silence, .notes, .noticeSlot,
      .replyQueue, .replyLog, .window, .startUp] s s.restartNow := by
  intro p hp
  cases p <;> simp_all [Part.read]

theorem State.startTakeTimer_sameBut (e : EventNotice) : SameBut [.delivery] s (s.startTakeTimer e) := by
  unfold State.startTakeTimer
  intro p hp
  split
  · split
    · cases p <;> simp_all [Part.read]
    · rfl
  · rfl

end

/-! ### Rows of a table that was changed as a whole -/

section
variable {s t : State}

theorem State.channel_of_map {f : Channel → Channel} (h : t.input.channels = s.input.channels.map f) (n : Fin 32) :
    t.channel n = f (s.channel n) := by
  rw [State.channel, h, Table.get_map]
  rfl

theorem State.channel_of_ofFn {f : Fin 32 → Channel} (h : t.input.channels = .ofFn f) (n : Fin 32) :
    t.channel n = f n := by
  rw [State.channel, h, Table.get_ofFn]

theorem State.intervalTimer_of_map {f : IntervalTimer → IntervalTimer} (h : t.timer.timers = s.timer.timers.map f)
    (n : Fin 4) : t.intervalTimer n = f (s.intervalTimer n) := by
  rw [State.intervalTimer, h, Table.get_map]
  rfl

end

end Sys2Proof.Machine
end

section
/-! SUPPORT. What each request does when it executes, said once: the state its body leaves. -/

namespace Sys2Proof.Machine

@[simp] theorem field_eq_executed {α : Type} {offset : Nat} {v? : Option α} {k : α → Verdict} {t : State}
    {data : List Byte} : field offset v? k = .executed t data ↔ ∃ v, v? = some v ∧ k v = .executed t data := by
  cases v? <;> simp

@[simp] theorem guarded_eq_executed {r : Request} {guard : Byte} {k : Verdict} {t : State} {data : List Byte} :
    guarded r guard k = .executed t data ↔ guard = 255 - r.sequence ∧ k = .executed t data := by
  unfold guarded
  split <;> simp_all

@[simp] theorem badLength_ne_executed (r : Request) (t : State) (data : List Byte) : badLength r ≠ .executed t data := nofun

variable {r : Request} {s t : State} {data : List Byte}

/-! ### Requests that change nothing -/

theorem pingBody_executed (h : pingBody r s = .executed t data) : t = s := by
  unfold pingBody at h
  split at h <;> simp_all

theorem getSourceBody_executed (h : getSourceBody r s = .executed t data) : t = s := by
  unfold getSourceBody at h
  split at h
  · simp only [field_eq_executed] at h
    obtain ⟨_, -, h⟩ := h
    cases h
    rfl
  · cases h

theorem readStackBody_executed (h : readStackBody r s = .executed t data) : t = s := by
  unfold readStackBody at h
  split at h <;> simp_all

theorem readInputsBody_executed (h : readInputsBody r s = .executed t data) : t = s := by
  unfold readInputsBody at h
  split at h <;> simp_all

theorem getTimerBody_executed (h : getTimerBody r s = .executed t data) : t = s := by
  unfold getTimerBody at h
  split at h
  · simp only [field_eq_executed] at h
    obtain ⟨_, -, h⟩ := h
    cases h
    rfl
  · cases h

theorem getTimeBody_executed (h : getTimeBody r s = .executed t data) : t = s := by
  unfold getTimeBody at h
  split at h <;> simp_all

/-! ### Requests to the source table -/

theorem setSourceBody_executed (h : setSourceBody r s = .executed t data) :
    ∃ (n : Fin 42) (mask : Mask) (level : Level) (mode : Mode) (ring : Fin 4) (budget : Byte),
      n.val < 40 ∧ (mode = .capture → n.val < 36 ∧ budget ≠ 0) ∧ level ≠ .urgent ∧
      t = s.setSource n
        { mask := mask, level := level, mode := mode, ring := ring
          budget := if mode = .capture then budget.toNat else 0, account := (s.source n).account } := by
  unfold setSourceBody at h
  split at h
  · rename_i budget _
    simp only [field_eq_executed] at h
    obtain ⟨n, -, mask, -, level, hlevel, mode, -, ring, -, b, hbudget, h⟩ := h
    have hurgent : level ≠ .urgent := by
      rintro rfl
      unfold Level.ofCode? at hlevel
      split at hlevel <;> cases hlevel
    obtain ⟨hzero, rfl⟩ : ¬ (mode = .capture ∧ budget = 0) ∧ budget.toNat = b := by simpa using hbudget
    split at h
    · cases h
    · rename_i hmode
      obtain ⟨hn, hcapture⟩ := not_or.1 hmode
      cases h
      exact ⟨n, mask, level, mode, ring, budget, by omega,
        fun hm => ⟨not_le.1 fun hle => hcapture ⟨hle, hm⟩, fun hb => hzero ⟨hm, hb⟩⟩, hurgent, rfl⟩
  · cases h

theorem maskListBody_executed (h : maskListBody r s = .executed t data) :
    ∃ (mask : Mask) (listed : List (Fin 42)), (∀ n ∈ listed, n.val < 40) ∧ t = s.maskSources mask listed := by
  unfold maskListBody at h
  split at h
  · split at h
    · cases h
    · simp only [field_eq_executed] at h
      obtain ⟨mask, -, h⟩ := h
      split at h
      · cases h
      · split at h
        · cases h
        · rename_i list _ _ _ _ hnone
          cases h
          refine ⟨mask, _, fun n hn => ?_, rfl⟩
          obtain ⟨b, hb, hbn⟩ := mem_listedNumbers.1 hn
          have := List.find?_eq_none.1 hnone b hb
          simp only [decide_eq_true_eq] at this
          omega
  · cases h

theorem clearSourceBody_executed (h : clearSourceBody r s = .executed t data) :
    ∃ n : Fin 42, t = s.setSource n { s.source n with account := none } := by
  unfold clearSourceBody at h
  split at h
  · simp only [field_eq_executed] at h
    obtain ⟨n, -, h⟩ := h
    cases h
    exact ⟨n, rfl⟩
  · cases h

/-! ### Requests to the delivery unit -/

theorem setDeliveryBody_executed (h : setDeliveryBody r s = .executed t data) :
    ∃ (timeout retry : Nat) (reentry : Bool), 1 ≤ timeout ∧ timeout ≤ 255 ∧ retry ≤ 7 ∧
      t = { s with
        delivery := { s.delivery with takeTimeout := timeout, retryLimit := retry, reentry := reentry } } := by
  unfold setDeliveryBody at h
  split at h
  · simp only [field_eq_executed, bounded?_eq_some] at h
    obtain ⟨timeout, ⟨hlow, hhigh, rfl⟩, retry, ⟨-, hretry, rfl⟩, reentry, -, h⟩ := h
    cases h
    exact ⟨_, _, reentry, hlow, hhigh, hretry, rfl⟩
  · cases h

theorem gateBody_executed (h : gateBody r s = .executed t data) :
    ∃ gate : Gate, s.delivery.offered? = none ∧ t = { s with delivery := { s.delivery with gate := gate } } := by
  unfold gateBody at h
  split at h
  · simp only [field_eq_executed] at h
    obtain ⟨gate, -, h⟩ := h
    split at h
    · cases h
    · rename_i hnone
      cases h
      exact ⟨gate, hnone, rfl⟩
  · cases h

theorem takeAgain_executed {notice : Byte} (h : takeAgain notice s = .executed t data) : t = s := by
  unfold takeAgain at h
  split at h <;> cases h
  rfl

theorem takeBody_executed (h : takeBody r s = .executed t data) :
    t = s ∨ ∃ e rest, s.delivery.stack = e :: rest ∧ e.phase = .offered ∧ t = s.takeInnermost e rest := by
  unfold takeBody at h
  split at h
  · split at h
    · rename_i e rest hstack
      split at h
      · rename_i hoffered
        cases h
        exact .inr ⟨e, rest, hstack, hoffered.1, rfl⟩
      · exact .inl (takeAgain_executed h)
    · exact .inl (takeAgain_executed h)
  · cases h

theorem doneBody_executed (h : doneBody r s = .executed t data) :
    ∃ e rest, s.delivery.stack = e :: rest ∧ t = s.doneInnermost e rest := by
  unfold doneBody at h
  split at h
  · simp only [field_eq_executed] at h
    obtain ⟨n, -, h⟩ := h
    split at h
    · rename_i e rest hstack
      split at h
      · cases h
        exact ⟨e, rest, hstack, rfl⟩
      · split at h <;> cases h
    · cases h
  · cases h

/-! ### Requests to the input channels, the timers and the rings -/

theorem setInputBody_executed (h : setInputBody r s = .executed t data) :
    ∃ (edge : EdgeSelect) (code : Fin 8) (listed : List (Fin 32)), t = s.configureChannels edge code listed := by
  unfold setInputBody at h
  split at h
  · split at h
    · cases h
    · simp only [field_eq_executed] at h
      obtain ⟨edge, -, code, -, h⟩ := h
      split at h
      · cases h
      · cases h
        exact ⟨edge, code, _, rfl⟩
  · cases h

theorem setTimerBody_executed (h : setTimerBody r s = .executed t data) :
    ∃ (n : Fin 4) (mode : TimerMode) (period : Nat) (trigger : Option (Fin 32)), period ≤ 65535 ∧
      (mode ≠ .off → 1 ≤ period) ∧ (mode = .onTrigger → trigger ≠ none) ∧
      t = s.setIntervalTimer n (.configured mode period trigger) := by
  unfold setTimerBody at h
  split at h
  · rename_i periodHigh periodLow _ _
    simp only [field_eq_executed] at h
    obtain ⟨n, -, mode, -, period, hperiod, trigger, -, trigger', htrigger, h⟩ := h
    obtain ⟨hzero, rfl⟩ : ¬ (number16 periodHigh periodLow = 0 ∧ mode ≠ .off) ∧
        number16 periodHigh periodLow = period := by simpa using hperiod
    obtain ⟨hnone, rfl⟩ : ¬ (trigger = none ∧ mode = .onTrigger) ∧ trigger = trigger' := by simpa using htrigger
    cases h
    have hrange : number16 periodHigh periodLow ≤ 65535 := by
      have := periodHigh.isLt
      have := periodLow.isLt
      unfold number16
      omega
    exact ⟨n, mode, _, trigger, hrange, fun hm => Nat.one_le_iff_ne_zero.2 fun h0 => hzero ⟨h0, hm⟩,
      fun hm ht => hnone ⟨ht, hm⟩, rfl⟩
  · cases h

theorem setTimeBody_executed (h : setTimeBody r s = .executed t data) :
    ∃ time : Time, t = { s with timer := { s.timer with timeBase := time } } := by
  unfold setTimeBody at h
  split at h <;> cases h
  exact ⟨_, rfl⟩

theorem setRingBody_executed (h : setRingBody r s = .executed t data) :
    ∃ (n : Fin 4) (snapshot : Bool) (watermark : Nat), watermark ≤ 64 ∧
      t = s.setRingTo n { s.ring n with snapshot := snapshot, watermark := watermark } := by
  unfold setRingBody at h
  split at h
  · simp only [field_eq_executed, bounded?_eq_some] at h
    obtain ⟨n, -, snapshot, -, watermark, ⟨-, hwatermark, rfl⟩, h⟩ := h
    cases h
    exact ⟨n, snapshot, _, hwatermark, rfl⟩
  · cases h

theorem drainRingBody_executed (h : drainRingBody r s = .executed t data) :
    ∃ (n : Fin 4) (k : Nat), t = s.setRingTo n { s.ring n with records := (s.ring n).records.drop k } := by
  unfold drainRingBody at h
  split at h
  · simp only [field_eq_executed] at h
    obtain ⟨n, -, maximum, -, h⟩ := h
    cases h
    exact ⟨n, maximum, rfl⟩
  · cases h

theorem discardRingBody_executed (h : discardRingBody r s = .executed t data) :
    ∃ n : Fin 4, t = s.setRingTo n { s.ring n with records := [] } := by
  unfold discardRingBody at h
  split at h
  · simp only [field_eq_executed] at h
    obtain ⟨n, -, h⟩ := h
    cases h
    exact ⟨n, rfl⟩
  · cases h

/-! ### Requests to the outputs, the protection unit and the command unit -/

theorem setOutputsBody_executed (h : setOutputsBody r s = .executed t data) :
    ∃ pattern : Byte, s.output.mode = .live ∧ t = { s with output := { s.output with livePattern := pattern } } := by
  unfold setOutputsBody at h
  split at h
  · split at h
    · cases h
    · rename_i hlive
      cases h
      exact ⟨_, hlive, rfl⟩
  · cases h

theorem holdOutputsBody_executed (h : holdOutputsBody r s = .executed t data) : t = s.holdClaim .host := by
  unfold holdOutputsBody at h
  split at h <;> cases h
  rfl

theorem releaseOutputsBody_executed (h : releaseOutputsBody r s = .executed t data) :
    ∃ pattern : Byte, s.protection.stopActive = false ∧
      t = { s with output := { s.output with causes := HoldCauses.empty, livePattern := pattern, mode := .live } } := by
  unfold releaseOutputsBody at h
  split at h
  · simp only [guarded_eq_executed] at h
    obtain ⟨-, h⟩ := h
    split at h
    · cases h
    · rename_i hstop
      cases h
      exact ⟨_, eq_false_of_ne_true hstop, rfl⟩
  · cases h

theorem setSafeBody_executed (h : setSafeBody r s = .executed t data) :
    ∃ pattern : Byte, t = { s with output := { s.output with safePattern := pattern } } := by
  unfold setSafeBody at h
  split at h
  · simp only [guarded_eq_executed] at h
    obtain ⟨-, h⟩ := h
    cases h
    exact ⟨_, rfl⟩
  · cases h

/-- The state in which SET STOP evaluates: its settings are written, and the qualification treated (R55). -/
def State.stopWritten (s : State) (enable level : Bool) (code : Fin 8) : State :=
  { s.setStopPin (s.input.stop.recode s.protection.stopCode code) with
    protection := { s.protection with stopEnable := enable, stopActiveLevel := level, stopCode := code } }

theorem setStopBody_executed (h : setStopBody r s = .executed t data) :
    ∃ (enable level : Bool) (code : Fin 8), t = (s.stopWritten enable level code).evaluateStop := by
  unfold setStopBody at h
  split at h
  · simp only [guarded_eq_executed, field_eq_executed] at h
    obtain ⟨-, enable, -, level, -, code, -, h⟩ := h
    cases h
    exact ⟨enable, level, code, rfl⟩
  · cases h

theorem setSilenceBody_executed (h : setSilenceBody r s = .executed t data) :
    ∃ timeout : Nat, t = { s with
      protection := { s.protection with silenceTimeout := timeout, silenceTimer := silenceTimerFor timeout } } := by
  unfold setSilenceBody at h
  split at h
  · simp only [guarded_eq_executed] at h
    obtain ⟨-, h⟩ := h
    cases h
    exact ⟨_, rfl⟩
  · cases h

theorem restartBody_executed (h : restartBody r s = .executed t data) :
    t = { s with command := { s.command with window := true } } := by
  unfold restartBody at h
  split at h
  · simp only [guarded_eq_executed] at h
    obtain ⟨-, h⟩ := h
    cases h
    rfl
  · cases h

end Sys2Proof.Machine
end

section
/-! SUPPORT. What each command other than a request can do, said once: the state it reaches. -/

namespace Sys2Proof.Machine

variable {s t : State}

/-! ### The pins -/

theorem execResetRelease_next {rate : BitVec 2} {pins : BitVec 32} {stopPin rxd : Bool}
    (h : execResetRelease rate pins stopPin rxd s = .next t) :
    t = s ∨ s.held = true ∧
      t = (State.stopCheck { s with
        held := false
        input := s.input.sample pins stopPin
        link := { s.link with rate := rate, line := if rxd then .idle else .waitingHigh } }).raiseStart .power := by
  unfold execResetRelease at h
  split at h
  · rename_i hheld
    cases h
    exact .inr ⟨hheld, rfl⟩
  · cases h
    exact .inl rfl

/-- What a change of a channel's pin does to the channel: held, both levels move; a return to the filtered level cancels; under code 0
the change is accepted; else a qualification is in progress (R97, R98, log 17). -/
theorem execInputPinChange_next {channel : Nat} {level : Bool} (h : execInputPinChange channel level s = .next t) :
    t = s ∨ ∃ n : Fin 32,
      (s.held = true ∧ t = s.setChannel n { s.channel n with raw := level, filtered := level }) ∨
      (s.held = false ∧ level = (s.channel n).filtered ∧
        t = s.setChannel n { s.channel n with raw := level, qualifying := none }) ∨
      (s.held = false ∧ t = (s.setChannel n { s.channel n with raw := level }).acceptChange n) ∨
      (s.held = false ∧ level ≠ (s.channel n).filtered ∧ (s.channel n).code ≠ 0 ∧
        t = s.setChannel n
          { s.channel n with raw := level, qualifying := some ((s.channel n).qualifying.getD 0) }) := by
  unfold execInputPinChange at h
  split at h
  · cases h
    exact .inl rfl
  · rename_i n _
    dsimp only at h
    split at h
    · cases h
      exact .inl rfl
    · refine .inr ⟨n, ?_⟩
      cases hheld : s.held with
      | true =>
        rw [hheld] at h
        cases h
        exact .inl ⟨rfl, rfl⟩
      | false =>
        rw [hheld, if_neg Bool.false_ne_true] at h
        split at h
        · rename_i hlevel
          cases h
          exact .inr (.inl ⟨rfl, hlevel, rfl⟩)
        · rename_i hlevel
          split at h
          · cases h
            exact .inr (.inr (.inl ⟨rfl, rfl⟩))
          · rename_i hcode
            cases h
            exact .inr (.inr (.inr ⟨rfl, hlevel, hcode, rfl⟩))

theorem execQualificationEnd_next {channel : Nat} (h : execQualificationEnd channel s = .next t) :
    t = s ∨ s.held = false ∧ ∃ n : Fin 32, t = s.acceptChange n := by
  unfold execQualificationEnd at h
  split at h
  · cases h
    exact .inl rfl
  · rename_i n _
    split at h
    · rename_i hdue
      cases h
      simp only [Bool.and_eq_true, Bool.not_eq_true'] at hdue
      exact .inr ⟨hdue.1, n, rfl⟩
    · cases h
      exact .inl rfl

theorem execStopPinChange_next {level : Bool} (h : execStopPinChange level s = .next t) :
    t = s ∨
      (s.held = true ∧ t = s.setStopPin { s.input.stop with raw := level, filtered := level }) ∨
      (s.held = false ∧ level = s.input.stop.filtered ∧
        t = s.setStopPin { s.input.stop with raw := level, qualifying := none }) ∨
      (s.held = false ∧ t = (s.setStopPin { s.input.stop with raw := level }).acceptStop) ∨
      (s.held = false ∧ level ≠ s.input.stop.filtered ∧ s.protection.stopCode ≠ 0 ∧
        t = s.setStopPin { s.input.stop with raw := level, qualifying := some (s.input.stop.qualifying.getD 0) }) := by
  unfold execStopPinChange at h
  dsimp only at h
  split at h
  · cases h
    exact .inl rfl
  · refine .inr ?_
    cases hheld : s.held with
    | true =>
      rw [hheld] at h
      cases h
      exact .inl ⟨rfl, rfl⟩
    | false =>
      rw [hheld, if_neg Bool.false_ne_true] at h
      split at h
      · rename_i hlevel
        cases h
        exact .inr (.inl ⟨rfl, hlevel, rfl⟩)
      · rename_i hlevel
        split at h
        · cases h
          exact .inr (.inr (.inl ⟨rfl, rfl⟩))
        · rename_i hcode
          cases h
          exact .inr (.inr (.inr ⟨rfl, hlevel, hcode, rfl⟩))

theorem execStopQualificationEnd_next (h : execStopQualificationEnd s = .next t) :
    t = s ∨ s.held = false ∧ t = s.acceptStop := by
  unfold execStopQualificationEnd at h
  split at h
  · rename_i hdue
    cases h
    simp only [Bool.and_eq_true, Bool.not_eq_true'] at hdue
    exact .inr ⟨hdue.1, rfl⟩
  · cases h
    exact .inl rfl

/-! ### What arrives, and what expires -/

/-- An arrival takes the oldest occurrence of the source off the way. -/
theorem execOccurrenceArrival_next {source : Nat} (h : execOccurrenceArrival source s = .next t) :
    t = s ∨ s.held = false ∧ ∃ (o : Occurrence) (rest : List OccurrenceInTransit), rest ⊆ s.event.arriving ∧
      t = State.arrive { s with event := { s.event with arriving := rest } } o := by
  unfold execOccurrenceArrival at h
  split at h
  · cases h
    exact .inl rfl
  · split at h
    · cases h
      exact .inl rfl
    · rename_i hheld
      split at h
      · cases h
        exact .inl rfl
      · rename_i x _
        cases h
        exact .inr ⟨eq_false_of_ne_true hheld, x.occurrence, _, List.eraseP_subset, rfl⟩

theorem execTriggerArrival_next {channel : Nat} (h : execTriggerArrival channel s = .next t) :
    t = s ∨ s.held = false ∧ ∃ (c : Fin 32) (age : Nat) (rest : List TriggerInTransit), rest ⊆ s.timer.arriving ∧
      t = { s with
        timer := { s.timer with timers := s.timer.timers.map fun x => x.triggered c age, arriving := rest } } := by
  unfold execTriggerArrival at h
  split at h
  · cases h
    exact .inl rfl
  · rename_i c _
    split at h
    · cases h
      exact .inl rfl
    · rename_i hheld
      split at h
      · cases h
        exact .inl rfl
      · rename_i x _
        cases h
        exact .inr ⟨eq_false_of_ne_true hheld, c, x.age, _, List.eraseP_subset, rfl⟩

theorem execTimerExpiry_next {timer : Nat} (h : execTimerExpiry timer s = .next t) :
    t = s ∨ s.held = false ∧ ∃ n : Fin 4, (s.intervalTimer n).isDue = true ∧
      t = (s.setIntervalTimer n (s.intervalTimer n).expired).raise (.expiry n s.timer.timeBase) := by
  unfold execTimerExpiry at h
  split at h
  · cases h
    exact .inl rfl
  · rename_i n _
    dsimp only at h
    split at h
    · rename_i hdue
      cases h
      simp only [Bool.and_eq_true, Bool.not_eq_true'] at hdue
      exact .inr ⟨hdue.1, n, hdue.2, rfl⟩
    · cases h
      exact .inl rfl

theorem execSilenceExpiry_next (h : execSilenceExpiry s = .next t) :
    t = s ∨ s.held = false ∧
      t = (State.holdClaim { s with protection := { s.protection with silenceTimer := none } } .silence).raise
        .silence := by
  unfold execSilenceExpiry at h
  split at h
  · rename_i hdue
    cases h
    simp only [Bool.and_eq_true, Bool.not_eq_true'] at hdue
    exact .inr ⟨hdue.1, rfl⟩
  · cases h
    exact .inl rfl

/-! ### Delivery -/

theorem nextOffer?_eq_some {n : Fin 42} {a : Account} :
    s.nextOffer? = some (n, a) ↔
      s.held = false ∧ s.slotFree = true ∧ s.chosen? = some n ∧ (s.source n).account = some a := by
  unfold State.nextOffer?
  rw [Option.ite_none_right_eq_some, Bool.and_eq_true, Bool.not_eq_true', and_assoc]
  refine and_congr_right fun _ => and_congr_right fun _ => ?_
  cases s.chosen? with
  | none => simp
  | some m =>
    constructor
    · intro h
      obtain ⟨b, hb, heq⟩ := Option.map_eq_some_iff.1 h
      cases heq
      exact ⟨rfl, hb⟩
    · rintro ⟨⟨⟩, ha⟩
      exact Option.map_eq_some_iff.2 ⟨a, ha, rfl⟩

theorem execMakeOffer_next (h : execMakeOffer s = .next t) :
    t = s ∨ s.held = false ∧ ∃ n a, s.slotFree = true ∧ s.chosen? = some n ∧ (s.source n).account = some a ∧
      t = s.offer n a := by
  unfold execMakeOffer at h
  split at h
  · rename_i n a hoffer
    obtain ⟨hheld, hfree, hchosen, haccount⟩ := nextOffer?_eq_some.1 hoffer
    cases h
    exact .inr ⟨hheld, n, a, hfree, hchosen, haccount, rfl⟩
  · cases h
    exact .inl rfl

theorem execTakeTimerExpiry_next (h : execTakeTimerExpiry s = .next t) :
    t = s ∨ s.held = false ∧ ∃ e rest, s.delivery.takeTimer = some 0 ∧ s.delivery.stack = e :: rest ∧
      e.phase = .offered ∧ ((e.attempts ≤ s.delivery.retryLimit ∧ t = s.resend e rest) ∨ t = s.withdraw e rest) := by
  unfold execTakeTimerExpiry at h
  split at h
  · rename_i e rest hdue
    obtain ⟨hheld, -, htimer, hstack, hphase⟩ := Slice0.takeExpiry?_eq_some.1 hdue
    refine .inr ⟨hheld, e, rest, htimer, hstack, hphase, ?_⟩
    split at h
    · rename_i hbelow
      cases h
      exact .inl ⟨Nat.le_of_lt_succ hbelow, rfl⟩
    · cases h
      exact .inr rfl
  · cases h
    exact .inl rfl

/-! ### The receiver -/

theorem execStartBit_next (h : execStartBit s = .next t) :
    t = s ∨ s.held = false ∧ t = { s with link := { s.link with line := .inCharacter 0, gap := 0 } } := by
  unfold execStartBit at h
  split at h
  · cases h
    exact .inl rfl
  · rename_i hheld
    split at h <;> cases h
    · exact .inr ⟨eq_false_of_ne_true hheld, rfl⟩
    all_goals exact .inl rfl

theorem execBreakEnd_next (h : execBreakEnd s = .next t) :
    t = s ∨ s.held = false ∧ t = { s with link := { s.link with line := .idle } } := by
  unfold execBreakEnd at h
  split at h
  · cases h
    exact .inl rfl
  · rename_i hheld
    split at h <;> cases h
    · exact .inr ⟨eq_false_of_ne_true hheld, rfl⟩
    all_goals exact .inl rfl

theorem execBreakLimit_next (h : execBreakLimit s = .next t) :
    t = s ∨ s.held = false ∧
      (t = { s with link := { s.link.discardFrame [.breakLine] with line := .waitingHigh } } ∨
        t = { s with link := { s.link with line := .waitingHigh } }) := by
  unfold execBreakLimit at h
  split at h
  · rename_i hdue
    simp only [Bool.and_eq_true, Bool.not_eq_true'] at hdue
    split at h <;> cases h
    · exact .inr ⟨hdue.1, .inl rfl⟩
    · exact .inr ⟨hdue.1, .inr rfl⟩
  · cases h
    exact .inl rfl

theorem execGapLimit_next (h : execGapLimit s = .next t) :
    t = s ∨ s.held = false ∧ t = { s with link := s.link.discardFrame [.gap] } := by
  unfold execGapLimit at h
  split at h
  · rename_i hdue
    cases h
    simp only [Bool.and_eq_true, Bool.not_eq_true'] at hdue
    exact .inr ⟨hdue.1, rfl⟩
  · cases h
    exact .inl rfl

/-- Everything a character of a frame can do: LENGTH, the buffer one longer, CRC, or a valid frame with its signal and disposal. -/
theorem State.assemble_cases (s : State) (data : Byte) :
    (∃ note : Note, s.assemble data = { s with link := s.link.discardFrame [note] }) ∨
    (((s.link.buffer ++ [data]).length = 2 → data.toNat ≤ 80) ∧ completeFrame? (s.link.buffer ++ [data]) = none ∧
      s.assemble data = { s with link := { s.link with buffer := s.link.buffer ++ [data] } }) ∨
    ∃ r, completeFrame? (s.link.buffer ++ [data]) = some (r, true) ∧
      s.assemble data =
        (State.validSignal { s with link := { s.link with frame := .hunting, buffer := [] } }).dispose r := by
  unfold State.assemble
  dsimp only
  split
  · exact .inl ⟨_, rfl⟩
  · rename_i hlength
    split
    · rename_i hnone
      exact .inr (.inl ⟨fun h2 => not_lt.1 fun hlt => hlength ⟨h2, hlt⟩, hnone, rfl⟩)
    · exact .inl ⟨_, rfl⟩
    · rename_i r hsome
      exact .inr (.inr ⟨r, hsome, rfl⟩)

/-- Everything a character can do at the frame level: nothing, begin a frame, join the frame, or discard it. -/
theorem State.frameCharacter_cases (s : State) (data : Byte) (conditions : List Note) :
    s.frameCharacter data conditions = s ∨
    (data = 0xA6 ∧
      s.frameCharacter data conditions = { s with link := { s.link with frame := .assembling, buffer := [data] } }) ∨
    (s.link.frame = .assembling ∧ s.frameCharacter data conditions = s.assemble data) ∨
    s.frameCharacter data conditions = { s with link := s.link.discardFrame conditions } := by
  unfold State.frameCharacter
  split
  · split
    · rename_i hlead
      exact .inr (.inl ⟨hlead.2, rfl⟩)
    · exact .inl rfl
  · rename_i hassembling
    split
    · exact .inr (.inr (.inl ⟨hassembling, rfl⟩))
    · exact .inr (.inr (.inr rfl))

theorem execCharacterReceived_next {data : Byte} {parity stop : Bool}
    (h : execCharacterReceived data parity stop s = .next t) :
    t = s ∨ s.held = false ∧
      t = State.frameCharacter { s with link := { s.link with line := .idle, gap := 0 } } data
        (characterConditions data parity stop) := by
  unfold execCharacterReceived at h
  split at h
  · cases h
    exact .inl rfl
  · rename_i hheld
    split at h <;> cases h
    · exact .inr ⟨eq_false_of_ne_true hheld, rfl⟩
    all_goals exact .inl rfl

/-! ### The command unit and the transmitter -/

/-- A duplicate is taken: its answer waits, or is queued again into a free place (R160). -/
theorem replayed?_eq_some_imp (h : s.replayed? = some t) :
    ∃ r, s.standing? = some r ∧
      (t = s.emptyIntake ∨ s.command.replyQueue.length < 4 ∧ ∃ e ∈ s.command.replyLog,
        t = s.emptyIntake.queueAnswer r.sequence e.answer) := by
  unfold State.replayed? at h
  split at h
  · rename_i r hr
    refine ⟨r, hr, ?_⟩
    split at h
    · rename_i e he
      split at h
      · cases h
        exact .inl rfl
      · split at h
        · rename_i hroom
          cases h
          exact .inr ⟨hroom, e, List.mem_of_find?_eq_some he, rfl⟩
        · cases h
    · cases h
  · cases h

theorem execReplay_next (h : execReplay s = .next t) :
    t = s ∨ s.held = false ∧ s.command.window = false ∧
      (t = s.emptyIntake ∨ s.command.replyQueue.length < 4 ∧ ∃ e ∈ s.command.replyLog, ∃ q,
        t = s.emptyIntake.queueAnswer q e.answer) := by
  unfold execReplay at h
  split at h
  · rename_i u hu
    cases h
    obtain ⟨r, hr, hcases⟩ := replayed?_eq_some_imp hu
    obtain ⟨hheld, hwindow, -⟩ := State.standing?_eq_some.1 hr
    exact .inr ⟨hheld, hwindow, hcases.imp_right fun ⟨hroom, e, he, ht⟩ => ⟨hroom, e, he, _, ht⟩⟩
  · cases h
    exact .inl rfl

theorem execBadKind_next (h : execBadKind s = .next t) :
    t = s ∨ ∃ r, s.newRequest? = some r ∧
      t = s.emptyIntake.answerNew r.sequence (.refused r.kind badKindCode 0) := by
  unfold execBadKind at h
  split at h
  · rename_i r hr
    split at h
    · cases h
      exact .inl rfl
    · cases h
      exact .inr ⟨r, hr, rfl⟩
  · cases h
    exact .inl rfl

theorem execArbiterChoice_next (h : execArbiterChoice s = .next t) :
    t = s ∨ s.held = false ∧ s.link.sending = none ∧
      ((∃ n, t = { s with
          command := { s.command with startNotice := none }
          link := { s.link with sending := some { frame := .start n, elapsed := 0 } } }) ∨
        (∃ f rest, s.command.replyQueue = f :: rest ∧ t = { s with
          command := { s.command with replyQueue := rest }
          link := { s.link with sending := some { frame := .answer f, elapsed := 0 } } }) ∨
        ∃ e, s.command.replyQueue = [] ∧ t = { s with
          link := { s.link with noticeSlot := none, sending := some { frame := .event e, elapsed := 0 } } }) := by
  unfold execArbiterChoice at h
  split at h
  · rename_i u hu
    cases h
    unfold State.arbitrate? at hu
    split at hu
    · cases hu
    · rename_i hheld
      split at hu
      · cases hu
      · rename_i hfree
        refine .inr ⟨eq_false_of_ne_true hheld, hfree, ?_⟩
        split at hu
        · rename_i n _
          cases hu
          exact .inl ⟨n, rfl⟩
        · split at hu
          · rename_i f rest hqueue
            cases hu
            exact .inr (.inl ⟨f, rest, hqueue, rfl⟩)
          · rename_i hqueue
            split at hu
            · rename_i e _
              cases hu
              exact .inr (.inr ⟨e, hqueue, rfl⟩)
            · cases hu
  · cases h
    exact .inl rfl

/-- The end of an EVENT notice starts the take timer of the OFFERED entry, whose own notice does not wait, or does nothing (R37). -/
theorem State.startTakeTimer_cases (s : State) (e : EventNotice) :
    s.startTakeTimer e = s ∨
      (∃ x ∈ s.delivery.stack, x.phase = .offered) ∧ s.link.noticeSlot = none ∧
        s.startTakeTimer e =
          { s with delivery := { s.delivery with takeTimer := some (takeTime s.delivery.takeTimeout) } } := by
  unfold State.startTakeTimer
  split
  · rename_i x hx
    split
    · rename_i hstarts
      exact .inr ⟨⟨x, List.mem_of_find?_eq_some hx, by simpa using List.find?_some hx⟩, hstarts.2.2, rfl⟩
    · exact .inl rfl
  · exact .inl rfl

/-- Everything the end of a frame can do: nothing but freeing the transmitter, start the take timer, or restart the part. -/
theorem execFrameEnd_next (h : execFrameEnd s = .next t) :
    t = s ∨ s.held = false ∧ ∃ x, s.link.sending = some x ∧
      ((t = { s with link := { s.link with sending := none } } ∧
          ∀ f, x.frame = .answer f → ∀ data, f.answer ≠ .reply 0x1A data) ∨
        (∃ e, x.frame = .event e ∧ t = State.startTakeTimer { s with link := { s.link with sending := none } } e) ∨
        t = State.restartNow { s with link := { s.link with sending := none } }) := by
  unfold execFrameEnd at h
  split at h
  · rename_i x hx
    split at h
    · rename_i hdue
      simp only [Bool.and_eq_true, Bool.not_eq_true'] at hdue
      cases h
      refine .inr ⟨hdue.1, x, hx, ?_⟩
      unfold State.endReport
      split
      · rename_i hframe
        exact .inl ⟨rfl, by rw [hframe]; nofun⟩
      · rename_i e hframe
        exact .inr (.inl ⟨e, hframe, rfl⟩)
      · rename_i kind data _ hframe
        split
        · exact .inr (.inr rfl)
        · rename_i hkind
          refine .inl ⟨rfl, ?_⟩
          rw [hframe]
          rintro _ ⟨⟩ data' ⟨⟩
          exact hkind rfl
      · rename_i hframe
        refine .inl ⟨rfl, ?_⟩
        rw [hframe]
        rintro _ ⟨⟩ data' ⟨⟩
    · cases h
      exact .inl rfl
  · cases h
    exact .inl rfl

end Sys2Proof.Machine
end

section
/-! SUPPORT. The frame of every command: which parts it may touch, and that while RESETn is low only POWER_ON, RESET_RELEASE and the
pins act. -/

namespace Sys2Proof.Machine

/-- The parts that the taking of any request touches: the slot is emptied and the answer queued and logged (R152, R159). -/
@[simp] def requestParts : List Part := [.intake, .notes, .replyQueue, .replyLog]

/-- The parts that the execution of a request moves, its answer apart. -/
@[simp] def bodyParts : Instr → List Part
  | .setSource | .maskList | .clearSource => [.sources]
  | .setDelivery | .gate => [.delivery]
  | .take | .done => [.delivery, .noticeSlot]
  | .setInput => [.channels, .occurrences, .triggers]
  | .setTimer => [.timers]
  | .setTime => [.timeBase]
  | .setRing | .drainRing | .discardRing => [.capture]
  | .setOutputs | .holdOutputs | .releaseOutputs | .setSafe => [.output]
  | .setStop => [.stopPin, .stopSettings, .stopActive, .output, .occurrences]
  | .setSilence => [.silence]
  | .restart => [.window]
  | _ => []

/-- The rows that take a new request: those of the kinds, and BAD_KIND. -/
@[simp] def takesRequest : Instr → Bool
  | .badKind | .ping | .setSource | .getSource | .maskList | .clearSource | .setDelivery | .readStack | .gate | .take | .done
  | .setInput | .readInputs | .setTimer | .getTimer | .setTime | .getTime | .setRing | .drainRing | .discardRing
  | .setOutputs | .holdOutputs | .releaseOutputs | .setSafe | .setStop | .setSilence | .restart => true
  | _ => false

/-- The parts a command may touch. -/
@[simp] def touched (i : Instr) : List Part :=
  match i with
  | .powerOn =>
    [.held, .channels, .stopPin, .timeBase, .timers, .triggers, .sources, .occurrences, .capture, .delivery, .stopSettings,
      .stopActive, .silence, .output, .line, .assembly, .intake, .notes, .noticeSlot, .sending, .replyQueue, .replyLog,
      .window, .startUp]
  | .resetRelease _ _ _ _ =>
    [.held, .channels, .stopPin, .line, .stopActive, .output, .sources, .occurrences, .capture, .startUp]
  | .inputPinChange _ _ | .qualificationEnd _ => [.channels, .occurrences, .triggers]
  | .stopPinChange _ | .stopQualificationEnd => [.stopPin, .stopActive, .output, .occurrences]
  | .occurrenceArrival _ => [.sources, .occurrences, .capture]
  | .triggerArrival _ => [.timers, .triggers]
  | .timerExpiry _ => [.timers, .occurrences]
  | .silenceExpiry => [.silence, .output, .occurrences]
  | .makeOffer | .takeTimerExpiry => [.sources, .delivery, .noticeSlot]
  | .characterReceived _ _ _ => [.line, .assembly, .intake, .notes, .silence, .delivery]
  | .breakLimit | .gapLimit => [.line, .assembly, .notes]
  | .startBit | .breakEnd => [.line]
  | .replay => [.intake, .notes, .replyQueue]
  | .arbiterChoice => [.startUp, .replyQueue, .noticeSlot, .sending]
  | .frameEnd =>
    [.sending, .channels, .timers, .triggers, .sources, .occurrences, .capture, .delivery, .silence, .notes, .noticeSlot,
      .replyQueue, .replyLog, .window, .startUp]
  | .badKind | .ping | .setSource | .getSource | .maskList | .clearSource | .setDelivery | .readStack | .gate | .take | .done
  | .setInput | .readInputs | .setTimer | .getTimer | .setTime | .getTime | .setRing | .drainRing | .discardRing
  | .setOutputs | .holdOutputs | .releaseOutputs | .setSafe | .setStop | .setSilence | .restart =>
    bodyParts i ++ requestParts

variable {s t : State}

/-! ### The requests -/

section
variable {r : Request} {data : List Byte}

theorem setSourceBody_sameBut (h : setSourceBody r s = .executed t data) : SameBut [.sources] s t := by
  obtain ⟨n, _, _, _, _, _, -, -, -, rfl⟩ := setSourceBody_executed h
  exact State.setSource_sameBut _ n _

theorem maskListBody_sameBut (h : maskListBody r s = .executed t data) : SameBut [.sources] s t := by
  obtain ⟨mask, listed, -, rfl⟩ := maskListBody_executed h
  exact State.maskSources_sameBut _ mask listed

theorem clearSourceBody_sameBut (h : clearSourceBody r s = .executed t data) : SameBut [.sources] s t := by
  obtain ⟨n, rfl⟩ := clearSourceBody_executed h
  exact State.setSource_sameBut _ n _

theorem setDeliveryBody_sameBut (h : setDeliveryBody r s = .executed t data) : SameBut [.delivery] s t := by
  obtain ⟨timeout, retry, reentry, -, -, -, rfl⟩ := setDeliveryBody_executed h
  intro p hp
  cases p <;> simp_all

theorem gateBody_sameBut (h : gateBody r s = .executed t data) : SameBut [.delivery] s t := by
  obtain ⟨gate, -, rfl⟩ := gateBody_executed h
  intro p hp
  cases p <;> simp_all

theorem takeBody_sameBut (h : takeBody r s = .executed t data) : SameBut [.delivery, .noticeSlot] s t := by
  obtain rfl | ⟨e, rest, -, -, rfl⟩ := takeBody_executed h
  · exact .refl _ _
  · exact State.takeInnermost_sameBut _ e rest

theorem doneBody_sameBut (h : doneBody r s = .executed t data) : SameBut [.delivery, .noticeSlot] s t := by
  obtain ⟨e, rest, -, rfl⟩ := doneBody_executed h
  exact State.doneInnermost_sameBut _ e rest

theorem setInputBody_sameBut (h : setInputBody r s = .executed t data) : SameBut [.channels, .occurrences, .triggers] s t := by
  obtain ⟨edge, code, listed, rfl⟩ := setInputBody_executed h
  exact State.configureChannels_sameBut _ edge code listed

theorem setTimerBody_sameBut (h : setTimerBody r s = .executed t data) : SameBut [.timers] s t := by
  obtain ⟨n, mode, period, trigger, -, -, -, rfl⟩ := setTimerBody_executed h
  exact State.setIntervalTimer_sameBut _ n _

theorem setTimeBody_sameBut (h : setTimeBody r s = .executed t data) : SameBut [.timeBase] s t := by
  obtain ⟨time, rfl⟩ := setTimeBody_executed h
  intro p hp
  cases p <;> simp_all

theorem setRingBody_sameBut (h : setRingBody r s = .executed t data) : SameBut [.capture] s t := by
  obtain ⟨n, snapshot, watermark, -, rfl⟩ := setRingBody_executed h
  exact State.setRingTo_sameBut _ n _

theorem drainRingBody_sameBut (h : drainRingBody r s = .executed t data) : SameBut [.capture] s t := by
  obtain ⟨n, k, rfl⟩ := drainRingBody_executed h
  exact State.setRingTo_sameBut _ n _

theorem discardRingBody_sameBut (h : discardRingBody r s = .executed t data) : SameBut [.capture] s t := by
  obtain ⟨n, rfl⟩ := discardRingBody_executed h
  exact State.setRingTo_sameBut _ n _

theorem setOutputsBody_sameBut (h : setOutputsBody r s = .executed t data) : SameBut [.output] s t := by
  obtain ⟨pattern, -, rfl⟩ := setOutputsBody_executed h
  intro p hp
  cases p <;> simp_all

theorem holdOutputsBody_sameBut (h : holdOutputsBody r s = .executed t data) : SameBut [.output] s t := by
  obtain rfl := holdOutputsBody_executed h
  exact State.holdClaim_sameBut _ _

theorem releaseOutputsBody_sameBut (h : releaseOutputsBody r s = .executed t data) : SameBut [.output] s t := by
  obtain ⟨pattern, -, rfl⟩ := releaseOutputsBody_executed h
  intro p hp
  cases p <;> simp_all

theorem setSafeBody_sameBut (h : setSafeBody r s = .executed t data) : SameBut [.output] s t := by
  obtain ⟨pattern, rfl⟩ := setSafeBody_executed h
  intro p hp
  cases p <;> simp_all

theorem State.stopWritten_sameBut (s : State) (enable level : Bool) (code : Fin 8) :
    SameBut [.stopPin, .stopSettings] s (s.stopWritten enable level code) := by
  intro p hp
  cases p <;> simp_all [State.stopWritten]

theorem setStopBody_sameBut (h : setStopBody r s = .executed t data) :
    SameBut [.stopPin, .stopSettings, .stopActive, .output, .occurrences] s t := by
  obtain ⟨enable, level, code, rfl⟩ := setStopBody_executed h
  exact ((State.stopWritten_sameBut _ enable level code).mono (by simp)).trans
    ((State.evaluateStop_sameBut _).mono (by simp))

theorem setSilenceBody_sameBut (h : setSilenceBody r s = .executed t data) : SameBut [.silence] s t := by
  obtain ⟨timeout, rfl⟩ := setSilenceBody_executed h
  intro p hp
  cases p <;> simp_all

theorem restartBody_sameBut (h : restartBody r s = .executed t data) : SameBut [.window] s t := by
  obtain rfl := restartBody_executed h
  intro p hp
  cases p <;> simp_all

end

/-- What the row of a request can do: nothing, or it takes a new request, moves no part but its own, and answers; the REPLY to RESTART
is RESTART's alone. -/
def Answers (i : Instr) (s t : State) : Prop :=
  t = s ∨ ∃ r u a, s.newRequest? = some r ∧ SameBut (bodyParts i) s.emptyIntake u ∧
    (i ≠ .restart → Safety.isRestartReply a = false) ∧ t = u.answerNew r.sequence a

theorem answers_of_serve {i : Instr} {kind : Byte} {body : Request → State → Verdict}
    (h : serve kind body s = .next t) (hkind : kind = 0x1A → i = .restart)
    (hbody : ∀ r u data, body r s.emptyIntake = .executed u data → SameBut (bodyParts i) s.emptyIntake u) :
    Answers i s t := by
  obtain rfl | ⟨r, hr, -, ⟨u, data, hu, rfl⟩ | ⟨code, detail, rfl⟩⟩ := serve_next h
  · exact .inl rfl
  · exact .inr ⟨r, u, .reply kind data, hr, hbody r u data hu, fun hi => beq_false_of_ne (mt hkind hi), rfl⟩
  · exact .inr ⟨r, s.emptyIntake, _, hr, .refl _ _, fun _ => rfl, rfl⟩

theorem answers_of_takesRequest {i : Instr} (hi : takesRequest i = true) (h : exec i s = .next t) : Answers i s t := by
  cases i with
  | badKind =>
    obtain rfl | ⟨r, hr, rfl⟩ := execBadKind_next h
    · exact .inl rfl
    · exact .inr ⟨r, s.emptyIntake, _, hr, .refl _ _, fun _ => rfl, rfl⟩
  | ping => exact answers_of_serve h nofun (fun _ _ _ hu => pingBody_executed hu ▸ .refl _ _)
  | setSource => exact answers_of_serve h nofun (fun _ _ _ => setSourceBody_sameBut)
  | getSource => exact answers_of_serve h nofun (fun _ _ _ hu => getSourceBody_executed hu ▸ .refl _ _)
  | maskList => exact answers_of_serve h nofun (fun _ _ _ => maskListBody_sameBut)
  | clearSource => exact answers_of_serve h nofun (fun _ _ _ => clearSourceBody_sameBut)
  | setDelivery => exact answers_of_serve h nofun (fun _ _ _ => setDeliveryBody_sameBut)
  | readStack => exact answers_of_serve h nofun (fun _ _ _ hu => readStackBody_executed hu ▸ .refl _ _)
  | gate => exact answers_of_serve h nofun (fun _ _ _ => gateBody_sameBut)
  | take => exact answers_of_serve h nofun (fun _ _ _ => takeBody_sameBut)
  | done => exact answers_of_serve h nofun (fun _ _ _ => doneBody_sameBut)
  | setInput => exact answers_of_serve h nofun (fun _ _ _ => setInputBody_sameBut)
  | readInputs => exact answers_of_serve h nofun (fun _ _ _ hu => readInputsBody_executed hu ▸ .refl _ _)
  | setTimer => exact answers_of_serve h nofun (fun _ _ _ => setTimerBody_sameBut)
  | getTimer => exact answers_of_serve h nofun (fun _ _ _ hu => getTimerBody_executed hu ▸ .refl _ _)
  | setTime => exact answers_of_serve h nofun (fun _ _ _ => setTimeBody_sameBut)
  | getTime => exact answers_of_serve h nofun (fun _ _ _ hu => getTimeBody_executed hu ▸ .refl _ _)
  | setRing => exact answers_of_serve h nofun (fun _ _ _ => setRingBody_sameBut)
  | drainRing => exact answers_of_serve h nofun (fun _ _ _ => drainRingBody_sameBut)
  | discardRing => exact answers_of_serve h nofun (fun _ _ _ => discardRingBody_sameBut)
  | setOutputs => exact answers_of_serve h nofun (fun _ _ _ => setOutputsBody_sameBut)
  | holdOutputs => exact answers_of_serve h nofun (fun _ _ _ => holdOutputsBody_sameBut)
  | releaseOutputs => exact answers_of_serve h nofun (fun _ _ _ => releaseOutputsBody_sameBut)
  | setSafe => exact answers_of_serve h nofun (fun _ _ _ => setSafeBody_sameBut)
  | setStop => exact answers_of_serve h nofun (fun _ _ _ => setStopBody_sameBut)
  | setSilence => exact answers_of_serve h nofun (fun _ _ _ => setSilenceBody_sameBut)
  | restart => exact answers_of_serve h (fun _ => rfl) (fun _ _ _ => restartBody_sameBut)
  | _ => cases hi

theorem Answers.sameBut {i : Instr} (h : Answers i s t) : SameBut (bodyParts i ++ requestParts) s t := by
  have hrequest : requestParts ⊆ bodyParts i ++ requestParts := List.subset_append_right _ _
  obtain rfl | ⟨r, u, a, -, hu, -, rfl⟩ := h
  · exact .refl _ _
  · exact ((s.emptyIntake_sameBut.mono (List.Subset.trans (by simp) hrequest)).trans
      (hu.mono (List.subset_append_left _ _))).trans
      ((u.answerNew_sameBut _ a).mono (List.Subset.trans (by simp) hrequest))

/-! ### The other commands -/

theorem execPowerOn_sameBut (h : execPowerOn s = .next t) : SameBut (touched .powerOn) s t := by
  cases h
  intro p hp
  cases p <;> simp_all

theorem execResetRelease_sameBut {rate : BitVec 2} {pins : BitVec 32} {stopPin rxd : Bool}
    (h : execResetRelease rate pins stopPin rxd s = .next t) :
    SameBut (touched (.resetRelease rate pins stopPin rxd)) s t := by
  obtain rfl | ⟨-, rfl⟩ := execResetRelease_next h
  · exact .refl _ _
  · refine SameBut.trans ?_ (((State.stopCheck_sameBut _).mono (by simp)).trans
      ((State.raiseStart_sameBut _ _).mono (by simp)))
    intro p hp
    cases p <;> simp_all

theorem execInputPinChange_sameBut {channel : Nat} {level : Bool} (h : execInputPinChange channel level s = .next t) :
    SameBut (touched (.inputPinChange channel level)) s t := by
  obtain rfl | ⟨n, ⟨-, rfl⟩ | ⟨-, -, rfl⟩ | ⟨-, rfl⟩ | ⟨-, -, -, rfl⟩⟩ := execInputPinChange_next h
  · exact .refl _ _
  · exact (s.setChannel_sameBut n _).mono (by simp)
  · exact (s.setChannel_sameBut n _).mono (by simp)
  · exact ((s.setChannel_sameBut n _).mono (by simp)).trans (State.acceptChange_sameBut _ n)
  · exact (s.setChannel_sameBut n _).mono (by simp)

theorem execQualificationEnd_sameBut {channel : Nat} (h : execQualificationEnd channel s = .next t) :
    SameBut (touched (.qualificationEnd channel)) s t := by
  obtain rfl | ⟨-, n, rfl⟩ := execQualificationEnd_next h
  · exact .refl _ _
  · exact s.acceptChange_sameBut n

theorem execStopPinChange_sameBut {level : Bool} (h : execStopPinChange level s = .next t) :
    SameBut (touched (.stopPinChange level)) s t := by
  obtain rfl | ⟨-, rfl⟩ | ⟨-, -, rfl⟩ | ⟨-, rfl⟩ | ⟨-, -, -, rfl⟩ := execStopPinChange_next h
  · exact .refl _ _
  · exact (s.setStopPin_sameBut _).mono (by simp)
  · exact (s.setStopPin_sameBut _).mono (by simp)
  · exact ((s.setStopPin_sameBut _).mono (by simp)).trans (State.acceptStop_sameBut _)
  · exact (s.setStopPin_sameBut _).mono (by simp)

theorem execStopQualificationEnd_sameBut (h : execStopQualificationEnd s = .next t) :
    SameBut (touched .stopQualificationEnd) s t := by
  obtain rfl | ⟨-, rfl⟩ := execStopQualificationEnd_next h
  · exact .refl _ _
  · exact s.acceptStop_sameBut

theorem execOccurrenceArrival_sameBut {source : Nat} (h : execOccurrenceArrival source s = .next t) :
    SameBut (touched (.occurrenceArrival source)) s t := by
  obtain rfl | ⟨-, o, rest, -, rfl⟩ := execOccurrenceArrival_next h
  · exact .refl _ _
  · refine SameBut.trans ?_ (State.arrive_sameBut _ o)
    intro p hp
    cases p <;> simp_all

theorem execTriggerArrival_sameBut {channel : Nat} (h : execTriggerArrival channel s = .next t) :
    SameBut (touched (.triggerArrival channel)) s t := by
  obtain rfl | ⟨-, c, age, rest, -, rfl⟩ := execTriggerArrival_next h
  · exact .refl _ _
  · intro p hp
    cases p <;> simp_all

theorem execTimerExpiry_sameBut {timer : Nat} (h : execTimerExpiry timer s = .next t) :
    SameBut (touched (.timerExpiry timer)) s t := by
  obtain rfl | ⟨-, n, -, rfl⟩ := execTimerExpiry_next h
  · exact .refl _ _
  · exact ((s.setIntervalTimer_sameBut n _).mono (by simp)).trans
      ((State.raise_sameBut _ _).mono (by simp))

theorem execSilenceExpiry_sameBut (h : execSilenceExpiry s = .next t) : SameBut (touched .silenceExpiry) s t := by
  obtain rfl | ⟨-, rfl⟩ := execSilenceExpiry_next h
  · exact .refl _ _
  · refine SameBut.trans ?_ (((State.holdClaim_sameBut _ _).mono (by simp)).trans
      ((State.raise_sameBut _ _).mono (by simp)))
    intro p hp
    cases p <;> simp_all

theorem execMakeOffer_sameBut (h : execMakeOffer s = .next t) : SameBut (touched .makeOffer) s t := by
  obtain rfl | ⟨-, n, a, -, -, -, rfl⟩ := execMakeOffer_next h
  · exact .refl _ _
  · exact s.offer_sameBut n a

theorem execTakeTimerExpiry_sameBut (h : execTakeTimerExpiry s = .next t) : SameBut (touched .takeTimerExpiry) s t := by
  obtain rfl | ⟨-, e, rest, -, -, -, ⟨-, rfl⟩ | rfl⟩ := execTakeTimerExpiry_next h
  · exact .refl _ _
  · exact (s.resend_sameBut e rest).mono (by simp)
  · exact (s.withdraw_sameBut e rest).mono (by simp)

theorem State.assemble_sameBut (s : State) (data : Byte) :
    SameBut [.assembly, .intake, .notes, .silence, .delivery] s (s.assemble data) := by
  obtain ⟨note, h⟩ | ⟨-, -, h⟩ | ⟨r, -, h⟩ := s.assemble_cases data <;> rw [h]
  · exact (s.discardFrame_sameBut _).mono (by simp)
  · intro p hp
    cases p <;> simp_all
  · refine SameBut.trans ?_ (((State.validSignal_sameBut _).mono (by simp)).trans
      ((State.dispose_sameBut _ r).mono (by simp)))
    intro p hp
    cases p <;> simp_all

theorem State.frameCharacter_sameBut (s : State) (data : Byte) (conditions : List Note) :
    SameBut [.assembly, .intake, .notes, .silence, .delivery] s (s.frameCharacter data conditions) := by
  obtain h | ⟨-, h⟩ | ⟨-, h⟩ | h := s.frameCharacter_cases data conditions <;> rw [h]
  · exact .refl _ _
  · intro p hp
    cases p <;> simp_all
  · exact s.assemble_sameBut data
  · exact (s.discardFrame_sameBut _).mono (by simp)

theorem execCharacterReceived_sameBut {data : Byte} {parity stop : Bool}
    (h : execCharacterReceived data parity stop s = .next t) :
    SameBut (touched (.characterReceived data parity stop)) s t := by
  obtain rfl | ⟨-, rfl⟩ := execCharacterReceived_next h
  · exact .refl _ _
  · refine SameBut.trans ?_ ((State.frameCharacter_sameBut _ _ _).mono (by simp))
    intro p hp
    cases p <;> simp_all

theorem execStartBit_sameBut (h : execStartBit s = .next t) : SameBut (touched .startBit) s t := by
  obtain rfl | ⟨-, rfl⟩ := execStartBit_next h
  · exact .refl _ _
  · intro p hp
    cases p <;> simp_all

theorem execBreakEnd_sameBut (h : execBreakEnd s = .next t) : SameBut (touched .breakEnd) s t := by
  obtain rfl | ⟨-, rfl⟩ := execBreakEnd_next h
  · exact .refl _ _
  · intro p hp
    cases p <;> simp_all

theorem execBreakLimit_sameBut (h : execBreakLimit s = .next t) : SameBut (touched .breakLimit) s t := by
  obtain rfl | ⟨-, rfl | rfl⟩ := execBreakLimit_next h
  · exact .refl _ _
  · refine ((s.discardFrame_sameBut [.breakLine]).mono (by simp)).trans ?_
    intro p hp
    cases p <;> simp_all
  · intro p hp
    cases p <;> simp_all

theorem execGapLimit_sameBut (h : execGapLimit s = .next t) : SameBut (touched .gapLimit) s t := by
  obtain rfl | ⟨-, rfl⟩ := execGapLimit_next h
  · exact .refl _ _
  · exact (s.discardFrame_sameBut _).mono (by simp)

theorem execReplay_sameBut (h : execReplay s = .next t) : SameBut (touched .replay) s t := by
  obtain rfl | ⟨-, -, rfl | ⟨-, e, -, q, rfl⟩⟩ := execReplay_next h
  · exact .refl _ _
  · exact s.emptyIntake_sameBut.mono (by simp)
  · exact (s.emptyIntake_sameBut.mono (by simp)).trans
      ((State.queueAnswer_sameBut _ q _).mono (by simp))

theorem execArbiterChoice_sameBut (h : execArbiterChoice s = .next t) : SameBut (touched .arbiterChoice) s t := by
  obtain rfl | ⟨-, -, ⟨n, rfl⟩ | ⟨f, rest, -, rfl⟩ | ⟨e, -, rfl⟩⟩ := execArbiterChoice_next h
  · exact .refl _ _
  all_goals
    intro p hp
    cases p <;> simp_all

theorem execFrameEnd_sameBut (h : execFrameEnd s = .next t) : SameBut (touched .frameEnd) s t := by
  have hfreed : SameBut (touched .frameEnd) s { s with link := { s.link with sending := none } } := by
    intro p hp
    cases p <;> simp_all
  obtain rfl | ⟨-, x, -, ⟨rfl, -⟩ | ⟨e, -, rfl⟩ | rfl⟩ := execFrameEnd_next h
  · exact .refl _ _
  · exact hfreed
  · exact hfreed.trans ((State.startTakeTimer_sameBut _ e).mono (by simp))
  · exact hfreed.trans ((State.restartNow_sameBut _).mono (by simp))

/-! ### Every command -/

/-- A command leaves every part alone that is not among those it may touch. -/
theorem exec_sameBut {i : Instr} (h : exec i s = .next t) : SameBut (touched i) s t := by
  cases i with
  | powerOn => exact execPowerOn_sameBut h
  | resetRelease rate pins stopPin rxd => exact execResetRelease_sameBut h
  | inputPinChange channel level => exact execInputPinChange_sameBut h
  | qualificationEnd channel => exact execQualificationEnd_sameBut h
  | stopPinChange level => exact execStopPinChange_sameBut h
  | stopQualificationEnd => exact execStopQualificationEnd_sameBut h
  | occurrenceArrival source => exact execOccurrenceArrival_sameBut h
  | triggerArrival channel => exact execTriggerArrival_sameBut h
  | timerExpiry timer => exact execTimerExpiry_sameBut h
  | silenceExpiry => exact execSilenceExpiry_sameBut h
  | makeOffer => exact execMakeOffer_sameBut h
  | takeTimerExpiry => exact execTakeTimerExpiry_sameBut h
  | characterReceived data parity stop => exact execCharacterReceived_sameBut h
  | breakLimit => exact execBreakLimit_sameBut h
  | gapLimit => exact execGapLimit_sameBut h
  | replay => exact execReplay_sameBut h
  | arbiterChoice => exact execArbiterChoice_sameBut h
  | frameEnd => exact execFrameEnd_sameBut h
  | startBit => exact execStartBit_sameBut h
  | breakEnd => exact execBreakEnd_sameBut h
  | _ => exact (answers_of_takesRequest rfl h).sameBut

/-! ### While RESETn is low -/

theorem newRequest?_of_held (hheld : s.held = true) : s.newRequest? = none := by
  simp [State.newRequest?, State.standing?, hheld]

theorem serve_of_held (hheld : s.held = true) (kind : Byte) (body : Request → State → Verdict) :
    serve kind body s = .next s := by
  simp [serve, newRequest?_of_held hheld]

/-- The commands that act while RESETn is low (log 17). -/
def actsWhileHeld : Instr → Bool
  | .powerOn | .resetRelease _ _ _ _ | .inputPinChange _ _ | .stopPinChange _ => true
  | _ => false

/-- While RESETn is low every other command does nothing. -/
theorem exec_of_held {i : Instr} (hheld : s.held = true) (hi : actsWhileHeld i = false) (h : exec i s = .next t) :
    t = s := by
  have hnot : s.held ≠ false := by simp [hheld]
  have hserve {kind : Byte} {body : Request → State → Verdict} (h : serve kind body s = .next t) : t = s := by
    rw [serve_of_held hheld] at h
    exact (Host.Outcome.next.inj h).symm
  cases i with
  | powerOn | resetRelease | inputPinChange | stopPinChange => cases hi
  | qualificationEnd => exact (execQualificationEnd_next h).resolve_right fun h => hnot h.1
  | stopQualificationEnd => exact (execStopQualificationEnd_next h).resolve_right fun h => hnot h.1
  | occurrenceArrival => exact (execOccurrenceArrival_next h).resolve_right fun h => hnot h.1
  | triggerArrival => exact (execTriggerArrival_next h).resolve_right fun h => hnot h.1
  | timerExpiry => exact (execTimerExpiry_next h).resolve_right fun h => hnot h.1
  | silenceExpiry => exact (execSilenceExpiry_next h).resolve_right fun h => hnot h.1
  | makeOffer => exact (execMakeOffer_next h).resolve_right fun h => hnot h.1
  | takeTimerExpiry => exact (execTakeTimerExpiry_next h).resolve_right fun h => hnot h.1
  | characterReceived => exact (execCharacterReceived_next h).resolve_right fun h => hnot h.1
  | breakLimit => exact (execBreakLimit_next h).resolve_right fun h => hnot h.1
  | gapLimit => exact (execGapLimit_next h).resolve_right fun h => hnot h.1
  | replay => exact (execReplay_next h).resolve_right fun h => hnot h.1
  | badKind =>
    refine (execBadKind_next h).resolve_right ?_
    rintro ⟨r, hr, -⟩
    rw [newRequest?_of_held hheld] at hr
    cases hr
  | arbiterChoice => exact (execArbiterChoice_next h).resolve_right fun h => hnot h.1
  | frameEnd => exact (execFrameEnd_next h).resolve_right fun h => hnot h.1
  | startBit => exact (execStartBit_next h).resolve_right fun h => hnot h.1
  | breakEnd => exact (execBreakEnd_next h).resolve_right fun h => hnot h.1
  | _ => exact hserve h

/-- Only POWER_ON makes a part that runs held. -/
theorem exec_held_of_not_held {i : Instr} (hheld : s.held = false) (hi : i ≠ .powerOn) (h : exec i s = .next t) :
    t.held = false := by
  by_cases hrelease : Part.held ∈ touched i
  · cases i with
    | powerOn => exact absurd rfl hi
    | resetRelease =>
      obtain rfl | ⟨hs, -⟩ := execResetRelease_next h
      · exact hheld
      · rw [hheld] at hs
        cases hs
    | _ => simp at hrelease
  · exact ((exec_sameBut h).held hrelease).trans hheld

end Sys2Proof.Machine
end

section
/-! SUPPORT. Invariants and the parts they look at: a command that touches none of them keeps the invariant. -/

namespace Sys2Proof.Machine

theorem State.pending_sameBut (s : State) (rest : List Instr) : SameBut [.pending] s { s with pending := rest } := by
  intro p hp
  cases p <;> simp_all

theorem State.choices_sameBut (s : State) (k : Nat) : SameBut [.choices] s { s with choices := k } := by
  intro p hp
  cases p <;> simp_all

/-- The predicate looks at these parts alone. -/
def DependsOn (parts : List Part) (P : State → Prop) : Prop :=
  ∀ s t, (∀ p ∈ parts, p.read t = p.read s) → P s → P t

namespace DependsOn

variable {parts more : List Part} {P Q : State → Prop} {s t : State} (hP : DependsOn parts P)
include hP

theorem of_sameBut (h : SameBut more s t) (hdisjoint : ∀ p ∈ parts, p ∉ more) (hs : P s) : P t :=
  hP s t (fun p hp => h p (hdisjoint p hp)) hs

theorem mono (hsub : parts ⊆ more) : DependsOn more P := fun s t h => hP s t fun p hp => h p (hsub hp)

theorem and (hQ : DependsOn parts Q) : DependsOn parts fun s => P s ∧ Q s :=
  fun s t h hs => ⟨hP s t h hs.1, hQ s t h hs.2⟩

theorem exec {i : Instr} (h : exec i s = .next t) (hdisjoint : ∀ p ∈ parts, p ∉ touched i) (hs : P s) : P t :=
  hP.of_sameBut (exec_sameBut h) hdisjoint hs

/-- A request keeps what its body keeps, when the slot, the notes, the queue and the log do not matter. -/
theorem serve {kind : Byte} {body : Request → State → Verdict} (hdisjoint : ∀ p ∈ parts, p ∉ requestParts)
    (hbody : ∀ r u data, s.newRequest? = some r → P s.emptyIntake → body r s.emptyIntake = .executed u data → P u)
    (h : Machine.serve kind body s = .next t) (hs : P s) : P t := by
  have hempty : P s.emptyIntake :=
    hP.of_sameBut (s.emptyIntake_sameBut.mono (by simp)) hdisjoint hs
  have hanswer (u : State) (q : Byte) (a : Answer) (hu : P u) : P (u.answerNew q a) :=
    hP.of_sameBut ((u.answerNew_sameBut q a).mono (by simp)) hdisjoint hu
  obtain rfl | ⟨r, hr, -, ⟨u, data, hu, rfl⟩ | ⟨code, detail, rfl⟩⟩ := serve_next h
  · exact hs
  · exact hanswer u _ _ (hbody r u data hr hempty hu)
  · exact hanswer _ _ _ hempty

/-- A step keeps what every command and a quiet microsecond keep, when the model's own queue and count do not matter. -/
theorem step (hpending : Part.pending ∉ parts) (hchoices : Part.choices ∉ parts)
    (htick : ∀ s, P s → s.dueSteps = [] → P s.tick) (hexec : ∀ i s t, P s → Machine.exec i s = .next t → P t)
    (hs : P s) (h : Machine.step s = .next t) : P t := by
  refine step_keeps (P := P) (fun s rest => ?_) (fun s k => ?_) htick hexec hs h
  · exact hP.of_sameBut (s.pending_sameBut rest) fun p hp => by simpa using ne_of_mem_of_not_mem hp hpending
  · exact hP.of_sameBut (s.choices_sameBut k) fun p hp => by simpa using ne_of_mem_of_not_mem hp hchoices

end DependsOn

end Sys2Proof.Machine
end

section
/-! PROOFS. The capture rings (4.2, 4.3): what every step keeps of them. -/

namespace Sys2Proof.Machine

open Sys2Proof.Safety

/-! ### One ring -/

theorem ringSound_reset : RingSound Ring.reset := ⟨Nat.zero_le _, Nat.zero_le _, nofun, fun i => i.elim0⟩

/-- An append to a ring with room numbers the record with the counter, which moves on (R72, R79). -/
theorem ringSound_append {r : Ring} (hr : RingSound r) (hroom : r.records.length < 64) {x : CaptureRecord}
    (hsource : x.source.val < 36) (hsequence : x.sequence = r.counter) : RingSound (r.append x) := by
  obtain ⟨-, hwatermark, hsources, hsequences⟩ := hr
  refine ⟨?length, hwatermark, ?sources, ?sequences⟩
  case length => simpa [Ring.append, Config.ringCapacity] using hroom
  case sources =>
    intro c hc
    obtain hc | hc := List.mem_append.1 hc
    · exact hsources c hc
    · rw [List.mem_singleton.1 hc]
      exact hsource
  case sequences =>
    rintro ⟨i, hi⟩
    simp only [Ring.append, List.length_append, List.length_singleton] at hi ⊢
    obtain hlt | rfl := Nat.lt_or_eq_of_le (Nat.le_of_lt_succ hi)
    · have hold := hsequences ⟨i, hlt⟩
      simp only [Fin.getElem_fin] at hold ⊢
      rw [List.getElem_append_left hlt, Nat.sub_add_comm hlt.le, BitVec.ofNat_add, ← BitVec.add_assoc, hold]
      rfl
    · simp [hsequence]

/-- The oldest records leave a ring (R91). -/
theorem ringSound_drop {r : Ring} (hr : RingSound r) (k : Nat) : RingSound { r with records := r.records.drop k } := by
  obtain ⟨hlength, hwatermark, hsources, hsequences⟩ := hr
  refine ⟨?length, hwatermark, fun c hc => hsources c (List.mem_of_mem_drop hc), ?sequences⟩
  case length => exact (List.length_drop.trans_le (Nat.sub_le ..)).trans hlength
  case sequences =>
    rintro ⟨i, hi⟩
    simp only [List.length_drop] at hi ⊢
    have hold := hsequences ⟨k + i, by omega⟩
    simp only [Fin.getElem_fin, List.getElem_drop] at hold ⊢
    rwa [show r.records.length - k - i = r.records.length - (k + i) by omega]

theorem ringSound_settings {r : Ring} (hr : RingSound r) (snapshot : Bool) {watermark : Nat} (h : watermark ≤ 64) :
    RingSound { r with snapshot := snapshot, watermark := watermark } := by
  obtain ⟨hlength, -, hsources, hsequences⟩ := hr
  exact ⟨hlength, h, hsources, hsequences⟩

/-! ### All rings -/

theorem ringsSound_dependsOn : DependsOn [.capture] RingsSound := by
  intro s t h hs n
  rw [State.ring_congr (h .capture (by simp))]
  exact hs n

section
variable {s : State}

theorem ringsSound_of_capture_reset (h : s.capture = .reset) : RingsSound s := by
  intro n
  have hring : s.ring n = Ring.reset := by rw [State.ring, h, CaptureUnit.reset, Table.get_ofFn]
  rw [hring]
  exact ringSound_reset

theorem ringsSound_setRingTo (hs : RingsSound s) {n : Fin 4} {r : Ring} (hr : RingSound r) :
    RingsSound (s.setRingTo n r) := by
  intro m
  rw [State.ring_setRingTo]
  split
  · exact hr
  · exact hs m

theorem ringsSound_captureClaim (hs : RingsSound s) {n : Fin 42} (hn : n.val < 36) (c : Claim) :
    RingsSound (s.captureClaim n c) := by
  obtain ⟨-, h⟩ | ⟨hroom, t, rfl, h⟩ := s.captureClaim_cases n c
  · rw [h]
    exact ringsSound_dependsOn.of_sameBut (s.setSource_sameBut n _) (by decide) hs
  · have happended := ringsSound_setRingTo hs (n := (s.source n).ring)
      (ringSound_append (hs _) hroom (x := (s.ring (s.source n).ring).recordFor n c s.input.filteredLevels) hn rfl)
    have hspent := ringsSound_dependsOn.of_sameBut (State.setSource_sameBut _ n ((s.source n).spend c.time)) (by decide)
      happended
    obtain h | h := h <;> rw [h]
    · exact hspent
    · exact ringsSound_dependsOn.of_sameBut (State.raise_sameBut _ _) (by decide) hspent

theorem ringsSound_arrive (hs : RingsSound s) (o : Occurrence) : RingsSound (s.arrive o) := by
  obtain h | ⟨c, hc, -, -, h⟩ := s.arrive_cases o <;> rw [h]
  · exact ringsSound_dependsOn.of_sameBut (s.setSource_sameBut _ _) (by decide) hs
  · exact ringsSound_captureClaim hs (Occurrence.source_lt_of_claim hc) c

theorem ringsSound_stopCheck (hs : RingsSound s) : RingsSound s.stopCheck := by
  unfold State.stopCheck
  dsimp only
  split
  · refine ringsSound_arrive ?_ _
    exact ringsSound_dependsOn.of_sameBut (State.holdClaim_sameBut _ _) (by decide) hs
  · exact hs

end

theorem exec_keeps_ringsSound (i : Instr) (s t : State) (hs : RingsSound s) (h : exec i s = .next t) : RingsSound t := by
  cases i with
  | powerOn =>
    cases h
    exact ringsSound_of_capture_reset rfl
  | resetRelease =>
    obtain rfl | ⟨-, rfl⟩ := execResetRelease_next h
    · exact hs
    · exact ringsSound_dependsOn.of_sameBut (State.raiseStart_sameBut _ _) (by decide) (ringsSound_stopCheck hs)
  | occurrenceArrival =>
    obtain rfl | ⟨-, o, rest, -, rfl⟩ := execOccurrenceArrival_next h
    · exact hs
    · exact ringsSound_arrive (s := { s with event := { s.event with arriving := rest } }) hs o
  | frameEnd =>
    obtain rfl | ⟨-, x, -, ⟨rfl, -⟩ | ⟨e, -, rfl⟩ | rfl⟩ := execFrameEnd_next h
    · exact hs
    · exact hs
    · exact ringsSound_dependsOn.of_sameBut (State.startTakeTimer_sameBut _ e) (by decide) hs
    · exact ringsSound_of_capture_reset rfl
  | setRing =>
    refine ringsSound_dependsOn.serve (by decide) (fun r u data _ hs hu => ?_) h hs
    obtain ⟨n, snapshot, watermark, hwatermark, rfl⟩ := setRingBody_executed hu
    exact ringsSound_setRingTo hs (ringSound_settings (hs n) snapshot hwatermark)
  | drainRing =>
    refine ringsSound_dependsOn.serve (by decide) (fun r u data _ hs hu => ?_) h hs
    obtain ⟨n, k, rfl⟩ := drainRingBody_executed hu
    exact ringsSound_setRingTo hs (ringSound_drop (hs n) k)
  | discardRing =>
    refine ringsSound_dependsOn.serve (by decide) (fun r u data _ hs hu => ?_) h hs
    obtain ⟨n, rfl⟩ := discardRingBody_executed hu
    have hall := ringSound_drop (hs n) (s.emptyIntake.ring n).records.length
    rw [List.drop_length] at hall
    exact ringsSound_setRingTo hs hall
  | _ => exact ringsSound_dependsOn.exec h (by simp) hs

theorem tick_keeps_ringsSound (s : State) (hs : RingsSound s) (_ : s.dueSteps = []) : RingsSound s.tick := by
  unfold State.tick
  split <;> exact hs

end Sys2Proof.Machine

open Sys2Proof Sys2Proof.Machine Sys2Proof.Safety

/-- Settles O8: an append numbers its record with the counter, a drain takes the oldest records, and nothing else touches a ring's
records. -/
theorem stepKeepsRingsInSequence : Obligations.StepKeepsRingsInSequence := by
  intro s t hs h
  exact ringsSound_dependsOn.step (by decide) (by decide) tick_keeps_ringsSound exec_keeps_ringsSound hs h
end

section
/-! PROOFS. The interval timers (6.3): what every step keeps of them. -/

namespace Sys2Proof.Machine

open Sys2Proof.Safety

/-! ### One timer -/

theorem timerSound_reset : TimerSound IntervalTimer.reset := by simp [TimerSound, IntervalTimer.reset]

theorem timerSound_configured {mode : TimerMode} {period : Nat} {trigger : Option (Fin 32)} (hrange : period ≤ 65535)
    (hperiod : mode ≠ .off → 1 ≤ period) (htrigger : mode = .onTrigger → trigger ≠ none) :
    TimerSound (.configured mode period trigger) := by
  cases mode <;>
    simp_all [TimerSound, IntervalTimer.configured, IntervalTimer.periodTime, Option.isSome_iff_ne_none]

section
variable {x : IntervalTimer} (hx : TimerSound x)
include hx

/-- A trigger sets an ON_TRIGGER timer running for at most its period (R117). -/
theorem timerSound_triggered (channel : Fin 32) (age : Nat) : TimerSound (x.triggered channel age) := by
  unfold IntervalTimer.triggered
  split
  · rename_i hmode
    obtain ⟨hrange, -, -, -, hperiod, -, -, htrigger⟩ := hx
    simp_all [TimerSound, IntervalTimer.periodTime]
  · exact hx

/-- R116, mode by mode. -/
theorem timerSound_expired : TimerSound x.expired := by
  obtain ⟨hrange, hoff, htimed, hwaits, hperiod, hidle, hleft, htrigger⟩ := hx
  cases hmode : x.mode <;> simp_all [TimerSound, IntervalTimer.expired, IntervalTimer.periodTime]

theorem timerSound_later : TimerSound x.later := by
  unfold IntervalTimer.later
  split
  · rename_i hphase
    obtain ⟨hrange, hoff, htimed, hwaits, hperiod, hidle, hleft, htrigger⟩ := hx
    exact ⟨hrange, hoff, htimed, hwaits, hperiod, fun h => absurd hphase h, (Nat.sub_le ..).trans hleft, htrigger⟩
  all_goals exact hx

end

/-! ### All timers -/

theorem timersSound_dependsOn : DependsOn [.timers] TimersSound := by
  intro s t h hs n
  rw [State.intervalTimer_congr (h .timers (by simp))]
  exact hs n

section
variable {s : State}

theorem timersSound_of_timers_reset (h : s.timer.timers = TimerUnit.reset.timers) : TimersSound s := by
  intro n
  have htimer : s.intervalTimer n = IntervalTimer.reset := by
    rw [State.intervalTimer, h, TimerUnit.reset, Table.get_ofFn]
  rw [htimer]
  exact timerSound_reset

theorem timersSound_setIntervalTimer (hs : TimersSound s) {n : Fin 4} {x : IntervalTimer} (hx : TimerSound x) :
    TimersSound (s.setIntervalTimer n x) := by
  intro m
  rw [State.intervalTimer_setIntervalTimer]
  split
  · exact hx
  · exact hs m

/-- A change of every timer in the same way. -/
theorem timersSound_of_map {t : State} {f : IntervalTimer → IntervalTimer} (ht : t.timer.timers = s.timer.timers.map f)
    (hf : ∀ x, TimerSound x → TimerSound (f x)) (hs : TimersSound s) : TimersSound t := by
  intro n
  rw [State.intervalTimer_of_map ht]
  exact hf _ (hs n)

end

theorem exec_keeps_timersSound (i : Instr) (s t : State) (hs : TimersSound s) (h : exec i s = .next t) : TimersSound t := by
  cases i with
  | powerOn =>
    cases h
    exact timersSound_of_timers_reset rfl
  | triggerArrival =>
    obtain rfl | ⟨-, c, age, rest, -, rfl⟩ := execTriggerArrival_next h
    · exact hs
    · exact timersSound_of_map rfl (fun x hx => timerSound_triggered hx c age) hs
  | timerExpiry =>
    obtain rfl | ⟨-, n, -, rfl⟩ := execTimerExpiry_next h
    · exact hs
    · refine timersSound_dependsOn.of_sameBut (State.raise_sameBut _ _) (by decide) ?_
      exact timersSound_setIntervalTimer hs (timerSound_expired (hs n))
  | frameEnd =>
    obtain rfl | ⟨-, x, -, ⟨rfl, -⟩ | ⟨e, -, rfl⟩ | rfl⟩ := execFrameEnd_next h
    · exact hs
    · exact hs
    · exact timersSound_dependsOn.of_sameBut (State.startTakeTimer_sameBut _ e) (by decide) hs
    · exact timersSound_of_timers_reset rfl
  | setTimer =>
    refine timersSound_dependsOn.serve (by decide) (fun r u data _ hs hu => ?_) h hs
    obtain ⟨n, mode, period, trigger, hrange, hperiod, htrigger, rfl⟩ := setTimerBody_executed hu
    exact timersSound_setIntervalTimer hs (timerSound_configured hrange hperiod htrigger)
  | _ => exact timersSound_dependsOn.exec h (by simp) hs

theorem tick_keeps_timersSound (s : State) (hs : TimersSound s) (_ : s.dueSteps = []) : TimersSound s.tick := by
  unfold State.tick
  split
  · exact hs
  · exact timersSound_of_map rfl (fun x => timerSound_later) hs

end Sys2Proof.Machine

open Sys2Proof Sys2Proof.Machine Sys2Proof.Safety

/-- Settles O9: a timer is written by SET TIMER, a trigger, its expiry and the passing of time, each into one of the combinations. -/
theorem stepKeepsTimersInTheirCombinations : Obligations.StepKeepsTimersInTheirCombinations := by
  intro s t hs h
  exact timersSound_dependsOn.step (by decide) (by decide) tick_keeps_timersSound exec_keeps_timersSound hs h
end

section
/-! PROOFS. The input channels and the STOP pin (3.2, 5.3): what every step keeps of their qualifications. -/

namespace Sys2Proof.Machine

open Sys2Proof.Safety

/-! ### One qualification -/

/-- With the raw level at the filtered one and nothing qualified, all is well. -/
theorem qualificationSound_of_settled {raw filtered : Bool} (h : raw = filtered) (code : Fin 8) :
    QualificationSound raw filtered code none := ⟨fun _ => h, nofun⟩

/-- A difference that begins to be qualified, or whose qualification goes on from what it was (R97). -/
theorem qualificationSound_started {raw level filtered : Bool} {code : Fin 8} {qualifying : Option Nat}
    (h : QualificationSound raw filtered code qualifying) (hlevel : level ≠ filtered) (hcode : code ≠ 0) :
    QualificationSound level filtered code (some (qualifying.getD 0)) := by
  refine ⟨nofun, ?_⟩
  rintro _ ⟨⟩
  cases qualifying with
  | none => exact ⟨hlevel, hcode, Nat.zero_le _⟩
  | some elapsed => exact ⟨hlevel, hcode, (h.2 elapsed rfl).2.2⟩

/-- A quiet microsecond: a qualification that has not run its whole time is at most at its end (log 12). -/
theorem qualificationSound_later {raw filtered : Bool} {code : Fin 8} {qualifying : Option Nat}
    (h : QualificationSound raw filtered code qualifying)
    (hquiet : ∀ elapsed ∈ qualifying, raw ≠ filtered → elapsed < filterTime code) :
    QualificationSound raw filtered code (laterQualification qualifying) := by
  cases qualifying with
  | none => exact h
  | some elapsed =>
    obtain ⟨hlevel, hcode, -⟩ := h.2 elapsed rfl
    refine ⟨nofun, ?_⟩
    rintro _ ⟨⟩
    exact ⟨hlevel, hcode, hquiet elapsed rfl hlevel⟩

/-- A new filter code restarts the qualification, or accepts the difference under code 0 (R55, R98). -/
theorem qualificationSound_restarted {raw filtered : Bool} {old code : Fin 8} {qualifying : Option Nat}
    (h : QualificationSound raw filtered old qualifying) (hqualifying : qualifying.isSome = true) (hcode : code ≠ 0) :
    QualificationSound raw filtered code (some 0) := by
  refine ⟨nofun, ?_⟩
  rintro _ ⟨⟩
  obtain ⟨elapsed, helapsed⟩ := Option.isSome_iff_exists.1 hqualifying
  exact ⟨(h.2 elapsed helapsed).1, hcode, Nat.zero_le _⟩

/-- With nothing qualified, or the same code, a code that is written changes nothing else. -/
theorem qualificationSound_recoded {raw filtered : Bool} {old code : Fin 8} {qualifying : Option Nat}
    (h : QualificationSound raw filtered old qualifying) (hkept : ¬ (qualifying.isSome = true ∧ code ≠ old)) :
    QualificationSound raw filtered code qualifying := by
  cases qualifying with
  | none => exact ⟨h.1, nofun⟩
  | some elapsed =>
    obtain rfl : code = old := by simpa using hkept
    exact h

/-! ### One channel, and the STOP pin -/

/-- A channel qualifies as R97 and R98 say. -/
def Channel.Sound (c : Channel) : Prop := QualificationSound c.raw c.filtered c.code c.qualifying

/-- The STOP pin qualifies as R54 says, under the STOP filter code. -/
def StopPin.Sound (p : StopPin) (code : Fin 8) : Prop := QualificationSound p.raw p.filtered code p.qualifying

theorem Channel.sound_reset (level : Bool) : (Channel.reset level).Sound := qualificationSound_of_settled rfl _

theorem Channel.sound_accepted (c : Channel) : c.accepted.Sound := qualificationSound_of_settled rfl _

theorem StopPin.sound_accepted (p : StopPin) (code : Fin 8) : p.accepted.Sound code := qualificationSound_of_settled rfl _

theorem Channel.sound_configure {c : Channel} (h : c.Sound) (edge : EdgeSelect) (code : Fin 8) :
    (c.configure edge code).Sound := by
  unfold Channel.configure
  dsimp only
  split
  · rename_i hrecoded
    split
    · exact Channel.sound_accepted _
    · rename_i hcode
      exact qualificationSound_restarted h hrecoded.1 hcode
  · rename_i hkept
    exact qualificationSound_recoded h hkept

theorem StopPin.sound_recode {p : StopPin} {old : Fin 8} (h : p.Sound old) (new : Fin 8) :
    (p.recode old new).Sound new := by
  unfold StopPin.recode
  split
  · rename_i hrecoded
    split
    · exact StopPin.sound_accepted p new
    · rename_i hcode
      exact qualificationSound_restarted h hrecoded.1 hcode
  · rename_i hkept
    exact qualificationSound_recoded h hkept

theorem StopPin.recode_of_not_qualifying {p : StopPin} (h : p.qualifying = none) (old new : Fin 8) :
    p.recode old new = p := by
  rw [StopPin.recode, h]
  exact if_neg (by simp)

/-! ### All inputs -/

theorem inputsSound_iff {s : State} :
    InputsSound s ↔ (∀ n, (s.channel n).Sound) ∧ s.input.stop.Sound s.protection.stopCode ∧
      (s.held = true → (∀ n, (s.channel n).qualifying = none) ∧ s.input.stop.qualifying = none) := Iff.rfl

theorem inputsSound_dependsOn : DependsOn [.held, .channels, .stopPin, .stopSettings] InputsSound := by
  intro s t h hs
  obtain ⟨hchannels, hstop, hheld⟩ := inputsSound_iff.1 hs
  have hchannel : ∀ n, t.channel n = s.channel n := State.channel_congr (h .channels (by simp))
  have hpin : t.input.stop = s.input.stop := h .stopPin (by simp)
  have hcode : t.protection.stopCode = s.protection.stopCode :=
    congrArg (fun x : Bool × Bool × Fin 8 => x.2.2) (h .stopSettings (by simp))
  refine inputsSound_iff.2 ⟨fun n => hchannel n ▸ hchannels n, ?_, fun ht => ?_⟩
  · rw [hpin, hcode]
    exact hstop
  · obtain ⟨hnone, hstopNone⟩ := hheld ((h .held (by simp)).symm.trans ht)
    exact ⟨fun n => hchannel n ▸ hnone n, by rw [hpin, hstopNone]⟩

section
variable {s : State}

/-- A change of one channel while the part runs, or one that leaves nothing qualified. -/
theorem inputsSound_setChannel (hs : InputsSound s) {n : Fin 32} {c : Channel} (hc : c.Sound)
    (hnone : s.held = true → c.qualifying = none) : InputsSound (s.setChannel n c) := by
  obtain ⟨hchannels, hstop, hheld⟩ := inputsSound_iff.1 hs
  refine inputsSound_iff.2 ⟨fun m => ?_, hstop, fun h => ⟨fun m => ?_, (hheld h).2⟩⟩
  · rw [State.channel_setChannel]
    split
    · exact hc
    · exact hchannels m
  · rw [State.channel_setChannel]
    split
    · exact hnone h
    · exact (hheld h).1 m

theorem inputsSound_setStopPin (hs : InputsSound s) {p : StopPin} (hp : p.Sound s.protection.stopCode)
    (hnone : s.held = true → p.qualifying = none) : InputsSound (s.setStopPin p) := by
  obtain ⟨hchannels, -, hheld⟩ := inputsSound_iff.1 hs
  exact inputsSound_iff.2 ⟨hchannels, hp, fun h => ⟨(hheld h).1, hnone h⟩⟩

theorem inputsSound_acceptChange {n : Fin 32} {c : Channel} (hs : InputsSound s) :
    InputsSound ((s.setChannel n c).acceptChange n) := by
  have haccepted : InputsSound (s.setChannel n c.accepted) :=
    inputsSound_setChannel hs c.sound_accepted fun _ => rfl
  refine inputsSound_dependsOn.of_sameBut (State.report_sameBut _ n) (by decide) ?_
  rw [State.channel_setChannel_same]
  simpa [State.setChannel] using haccepted

theorem inputsSound_acceptStop {p : StopPin} (hs : InputsSound s) : InputsSound (s.setStopPin p).acceptStop := by
  refine inputsSound_dependsOn.of_sameBut (State.evaluateStop_sameBut _) (by decide) ?_
  exact inputsSound_setStopPin (p := p.accepted) hs (p.sound_accepted _) fun _ => rfl

section
variable {t : State} (h : t.input.channels = s.input.channels.map fun c => Channel.reset c.raw) (n : Fin 32)
include h

theorem sound_of_channels_reset : (t.channel n).Sound := by
  rw [State.channel_of_map h]
  exact Channel.sound_reset _

theorem qualifying_of_channels_reset : (t.channel n).qualifying = none := by
  rw [State.channel_of_map h]
  rfl

end

theorem channel_configureChannels (s : State) (edge : EdgeSelect) (code : Fin 8) (listed : List (Fin 32)) (n : Fin 32) :
    (s.configureChannels edge code listed).channel n =
      if n ∈ listed then (s.channel n).configure edge code else s.channel n := by
  unfold State.configureChannels
  rw [(State.foldl_report_sameBut _ _).channel (by decide)]
  exact Table.get_ofFn ..

end

theorem exec_keeps_inputsSound (i : Instr) (s t : State) (hs : InputsSound s) (h : exec i s = .next t) :
    InputsSound t := by
  obtain ⟨hchannels, hstop, hheld⟩ := inputsSound_iff.1 hs
  cases i with
  | powerOn =>
    cases h
    exact inputsSound_iff.2 ⟨fun n => sound_of_channels_reset rfl n, qualificationSound_of_settled rfl _,
      fun _ => ⟨fun n => qualifying_of_channels_reset rfl n, rfl⟩⟩
  | resetRelease rate pins stopPin rxd =>
    obtain rfl | ⟨-, rfl⟩ := execResetRelease_next h
    · exact hs
    · refine inputsSound_dependsOn.of_sameBut
        (((State.stopCheck_sameBut _).mono (List.subset_append_left _ [.startUp])).trans
          ((State.raiseStart_sameBut _ _).mono (List.subset_append_right _ _))) (by decide) ?_
      refine inputsSound_iff.2 ⟨fun n => ?_, qualificationSound_of_settled rfl _, nofun⟩
      rw [State.channel_of_ofFn rfl]
      exact qualificationSound_of_settled rfl _
  | inputPinChange channel level =>
    obtain rfl | ⟨n, ⟨hres, rfl⟩ | ⟨hrun, hlevel, rfl⟩ | ⟨hrun, rfl⟩ | ⟨hrun, hlevel, hcode, rfl⟩⟩ :=
      execInputPinChange_next h
    · exact hs
    · have hnone := (hheld hres).1 n
      exact inputsSound_setChannel hs (by rw [Channel.Sound, hnone]; exact qualificationSound_of_settled rfl _)
        fun _ => hnone
    · exact inputsSound_setChannel hs (qualificationSound_of_settled hlevel _) fun _ => rfl
    · exact inputsSound_acceptChange hs
    · exact inputsSound_setChannel hs (qualificationSound_started (hchannels n) hlevel hcode) fun h => by simp [hrun] at h
  | qualificationEnd channel =>
    obtain rfl | ⟨-, n, rfl⟩ := execQualificationEnd_next h
    · exact hs
    · have haccept := inputsSound_acceptChange (n := n) (c := s.channel n) hs
      rwa [show s.setChannel n (s.channel n) = s by simp [State.setChannel, State.channel]] at haccept
  | stopPinChange level =>
    obtain rfl | ⟨hres, rfl⟩ | ⟨hrun, hlevel, rfl⟩ | ⟨hrun, rfl⟩ | ⟨hrun, hlevel, hcode, rfl⟩ :=
      execStopPinChange_next h
    · exact hs
    · have hnone := (hheld hres).2
      exact inputsSound_setStopPin hs (by rw [StopPin.Sound, hnone]; exact qualificationSound_of_settled rfl _)
        fun _ => hnone
    · exact inputsSound_setStopPin hs (qualificationSound_of_settled hlevel _) fun _ => rfl
    · exact inputsSound_acceptStop hs
    · exact inputsSound_setStopPin hs (qualificationSound_started hstop hlevel hcode) fun h => by simp [hrun] at h
  | stopQualificationEnd =>
    obtain rfl | ⟨-, rfl⟩ := execStopQualificationEnd_next h
    · exact hs
    · exact inputsSound_acceptStop (p := s.input.stop) hs
  | frameEnd =>
    obtain rfl | ⟨hrun, x, -, ⟨rfl, -⟩ | ⟨e, -, rfl⟩ | rfl⟩ := execFrameEnd_next h
    · exact hs
    · exact hs
    · exact inputsSound_dependsOn.of_sameBut (State.startTakeTimer_sameBut _ e) (by decide) hs
    · exact inputsSound_iff.2 ⟨fun n => sound_of_channels_reset rfl n, hstop,
        fun h => ⟨fun n => qualifying_of_channels_reset rfl n, (hheld h).2⟩⟩
  | setInput =>
    refine inputsSound_dependsOn.serve (by decide) (fun r u data _ hs hu => ?_) h hs
    obtain ⟨edge, code, listed, rfl⟩ := setInputBody_executed hu
    have hsame := s.emptyIntake.configureChannels_sameBut edge code listed
    obtain ⟨hchannels, hstop, hheld⟩ := inputsSound_iff.1 hs
    refine inputsSound_iff.2 ⟨fun n => ?_, ?_, fun h => ?_⟩
    · rw [channel_configureChannels]
      split
      · exact Channel.sound_configure (hchannels n) edge code
      · exact hchannels n
    · rw [hsame.stopPin (by decide), (hsame.stopSettings (by decide)).2.2]
      exact hstop
    · obtain ⟨hnone, hstopNone⟩ := hheld ((hsame.held (by decide)).symm.trans h)
      refine ⟨fun n => ?_, by rw [hsame.stopPin (by decide), hstopNone]⟩
      rw [channel_configureChannels]
      split
      · simp [Channel.configure, hnone n]
      · exact hnone n
  | setStop =>
    refine inputsSound_dependsOn.serve (by decide) (fun r u data _ hs hu => ?_) h hs
    obtain ⟨enable, level, code, rfl⟩ := setStopBody_executed hu
    obtain ⟨hchannels, hstop, hheld⟩ := inputsSound_iff.1 hs
    refine inputsSound_dependsOn.of_sameBut (State.evaluateStop_sameBut _) (by decide) ?_
    refine inputsSound_iff.2 ⟨hchannels, StopPin.sound_recode hstop code, fun h => ⟨(hheld h).1, ?_⟩⟩
    have hnone := (hheld h).2
    exact (congrArg StopPin.qualifying (StopPin.recode_of_not_qualifying hnone _ code)).trans hnone
  | _ => exact inputsSound_dependsOn.exec h (by simp) hs

/-- No qualification that has run its whole time is left when no step is due. -/
theorem not_isDue_of_dueSteps_eq_nil {s : State} (hheld : s.held = false) (h : s.dueSteps = []) (n : Fin 32) :
    (s.channel n).isDue = false := by
  simp only [State.dueSteps, hheld, Bool.false_eq_true, if_false, List.append_eq_nil_iff, List.map_eq_nil_iff,
    List.filter_eq_nil_iff] at h
  obtain ⟨⟨⟨⟨⟨⟨⟨⟨⟨⟨⟨hchannels, -⟩, -⟩, -⟩, -⟩, -⟩, -⟩, -⟩, -⟩, -⟩, -⟩, -⟩ := h
  exact eq_false_of_ne_true (hchannels n (List.mem_finRange n))

theorem not_stopDue_of_dueSteps_eq_nil {s : State} (hheld : s.held = false) (h : s.dueSteps = []) :
    s.stopDue = false := by
  simp only [State.dueSteps, hheld, Bool.false_eq_true, if_false, List.append_eq_nil_iff] at h
  obtain ⟨⟨⟨⟨⟨⟨⟨⟨⟨⟨⟨-, hstop⟩, -⟩, -⟩, -⟩, -⟩, -⟩, -⟩, -⟩, -⟩, -⟩, -⟩ := h
  cases hdue : s.stopDue with
  | false => rfl
  | true => simp [stepIf, hdue] at hstop

theorem tick_keeps_inputsSound (s : State) (hs : InputsSound s) (hquiet : s.dueSteps = []) : InputsSound s.tick := by
  obtain ⟨hchannels, hstop, -⟩ := inputsSound_iff.1 hs
  unfold State.tick
  split
  · exact hs
  · rename_i hheld
    have hheld := eq_false_of_ne_true hheld
    refine inputsSound_iff.2 ⟨fun n => ?_, ?_, fun h => absurd (hheld.symm.trans h) (by decide)⟩
    · have hdue := not_isDue_of_dueSteps_eq_nil hheld hquiet n
      rw [State.channel_of_map (s := s) rfl]
      refine qualificationSound_later (hchannels n) fun elapsed helapsed hlevel => ?_
      simpa [Channel.isDue, Option.mem_def.1 helapsed, hlevel] using hdue
    · have hdue := not_stopDue_of_dueSteps_eq_nil hheld hquiet
      refine qualificationSound_later hstop fun elapsed helapsed hlevel => ?_
      simpa [State.stopDue, Option.mem_def.1 helapsed, hlevel] using hdue

end Sys2Proof.Machine

open Sys2Proof Sys2Proof.Machine Sys2Proof.Safety

/-- Settles O6: a difference is qualified or accepted when it arises, a code that changes restarts or accepts it, and no qualification
that has run its whole time is left when time passes. -/
theorem stepKeepsQualificationsSound : Obligations.StepKeepsQualificationsSound := by
  intro s t hs h
  exact inputsSound_dependsOn.step (by decide) (by decide) tick_keeps_inputsSound exec_keeps_inputsSound hs h
end

section
/-! PROOFS. The outputs and their hold causes (3.3, 7.1): what every step keeps of them, and what ends a hold. -/

namespace Sys2Proof.Machine

open Sys2Proof.Safety

/-! ### The STOP check at reset release -/

/-- Everything the STOP check can do to the protection and output units: a STOP occurrence with its claim, or only the condition
written (R59). -/
theorem State.stopCheck_cases (s : State) :
    (s.stopCondition = true ∧ s.stopCheck.protection = { s.protection with stopActive := true } ∧
      s.stopCheck.output = { s.output with causes := { s.output.causes with stop := true }, mode := .safeHeld }) ∨
    (s.stopCondition = false ∧ s.stopCheck.protection = { s.protection with stopActive := false } ∧
      s.stopCheck.output = s.output) := by
  unfold State.stopCheck
  cases hcondition : s.stopCondition
  · exact .inr ⟨rfl, rfl, rfl⟩
  · obtain ⟨-, -, -, -, hprotection, houtput, -⟩ := State.arrive_frame
      (State.holdClaim { s with protection := { s.protection with stopActive := true } } .stop) .stop
    exact .inl ⟨rfl, hprotection, houtput⟩

/-! ### The two invariants together -/

/-- The outputs are held exactly by their causes, and STOP is among them while it is active. -/
def HoldSound (s : State) : Prop := OutputsSound s ∧ StopSound s

theorem stopCondition_congr {s t : State} (hpin : t.input.stop.filtered = s.input.stop.filtered)
    (henable : t.protection.stopEnable = s.protection.stopEnable)
    (hlevel : t.protection.stopActiveLevel = s.protection.stopActiveLevel) : t.stopCondition = s.stopCondition := by
  simp only [State.stopCondition, hpin, henable, hlevel]

theorem holdSound_dependsOn : DependsOn [.held, .stopPin, .stopSettings, .stopActive, .output] HoldSound := by
  intro s t h hs
  obtain ⟨houtputs, hheld, hrun, hactive⟩ := hs
  have hheld' : t.held = s.held := h .held (by simp)
  have houtput' : t.output = s.output := h .output (by simp)
  have hactive' : t.protection.stopActive = s.protection.stopActive := h .stopActive (by simp)
  have hpin' : t.input.stop = s.input.stop := h .stopPin (by simp)
  have hsettings' := h .stopSettings (by simp)
  simp only [Part.read, Prod.mk.injEq] at hsettings'
  have hcondition' : t.stopCondition = s.stopCondition :=
    stopCondition_congr (by rw [hpin']) hsettings'.1 hsettings'.2.1
  simp only [HoldSound, OutputsSound, StopSound, hheld', houtput', hactive', hcondition']
  exact ⟨houtputs, hheld, hrun, hactive⟩

section
variable {s : State}

theorem outputsSound_of_claim (c : HoldCause) (h : s.output.mode = .safeHeld) {old : HoldCauses}
    (hcauses : s.output.causes = old.add c) : OutputsSound s :=
  ⟨fun _ => hcauses ▸ old.add_ne_empty c, fun _ => h⟩

/-- A hold claim keeps what stands, STOP among the causes. -/
theorem holdSound_holdClaim (hs : HoldSound s) (c : HoldCause) : HoldSound (s.holdClaim c) := by
  obtain ⟨-, hheld, hrun, hactive⟩ := hs
  refine ⟨outputsSound_of_claim c rfl rfl, hheld, hrun, fun h => ⟨rfl, ?_⟩⟩
  have hstop := (hactive h).2
  cases c <;> simp [HoldCauses.add, hstop]

/-- An evaluation writes the condition, and a turn to active makes the hold claim (R56, R57). -/
theorem holdSound_evaluateStop (hheld : s.held = false) (houtputs : OutputsSound s)
    (hactive : s.protection.stopActive = true → s.output.mode = .safeHeld ∧ s.output.causes.stop = true) :
    HoldSound s.evaluateStop := by
  obtain ⟨hcondition, -, h⟩ | ⟨hkept, h⟩ := s.evaluateStop_cases <;> rw [h]
  · exact ⟨outputsSound_of_claim .stop rfl rfl, fun h => absurd (hheld.symm.trans h) (by decide),
      fun _ => hcondition.symm, fun _ => ⟨rfl, rfl⟩⟩
  · refine ⟨houtputs, fun h => absurd (hheld.symm.trans h) (by decide), fun _ => rfl, fun h => ?_⟩
    obtain hfalse | hactive' := hkept
    · exact absurd (hfalse.symm.trans h) (by decide)
    · exact hactive hactive'

/-- A STOP pin whose filtered level stays. -/
theorem holdSound_setStopPin (hs : HoldSound s) {p : StopPin} (hp : p.filtered = s.input.stop.filtered) :
    HoldSound (s.setStopPin p) := by
  obtain ⟨houtputs, hheld, hrun, hactive⟩ := hs
  exact ⟨houtputs, hheld, fun h => (hrun h).trans (stopCondition_congr (s := s) (t := s.setStopPin p) hp rfl rfl).symm, hactive⟩

theorem holdSound_acceptStop (hheld : s.held = false) (hs : HoldSound s) (p : StopPin) :
    HoldSound (s.setStopPin p).acceptStop :=
  holdSound_evaluateStop hheld hs.1 hs.2.2.2

theorem holdSound_stopCheck (hheld : s.held = false) (houtputs : OutputsSound s) : HoldSound s.stopCheck := by
  have hsame := s.stopCheck_sameBut
  have hheld' : s.stopCheck.held = false := (hsame.held (by decide)).trans hheld
  obtain ⟨henable, hlevel, -⟩ := hsame.stopSettings (by decide)
  have hcondition' : s.stopCheck.stopCondition = s.stopCondition :=
    stopCondition_congr (by rw [hsame.stopPin (by decide)]) henable hlevel
  obtain ⟨hcondition, hprotection, houtput⟩ | ⟨hcondition, hprotection, houtput⟩ := s.stopCheck_cases
  · have hcauses : s.stopCheck.output.causes = s.output.causes.add .stop := by rw [houtput]; rfl
    refine ⟨outputsSound_of_claim .stop (by rw [houtput]) hcauses, by simp [hheld'], fun _ => ?_, fun _ => ?_⟩
    · rw [hprotection, hcondition', hcondition]
    · rw [houtput]
      exact ⟨rfl, rfl⟩
  · refine ⟨by rw [OutputsSound, houtput]; exact houtputs, by simp [hheld'], fun _ => ?_, fun h => ?_⟩
    · rw [hprotection, hcondition', hcondition]
    · rw [hprotection] at h
      cases h

end

theorem exec_keeps_holdSound (i : Instr) (s t : State) (hs : HoldSound s) (h : exec i s = .next t) : HoldSound t := by
  obtain ⟨houtputs, hheld, hrun, hactive⟩ := id hs
  cases i with
  | powerOn =>
    cases h
    exact ⟨outputsSound_of_claim .start (old := .empty) rfl rfl, fun _ => rfl, nofun, nofun⟩
  | resetRelease =>
    obtain rfl | ⟨-, rfl⟩ := execResetRelease_next h
    · exact hs
    · refine holdSound_dependsOn.of_sameBut (State.raiseStart_sameBut _ _) (by decide) ?_
      exact holdSound_stopCheck rfl houtputs
  | stopPinChange level =>
    obtain rfl | ⟨hres, rfl⟩ | ⟨hrun', hlevel, rfl⟩ | ⟨hrun', rfl⟩ | ⟨-, -, -, rfl⟩ := execStopPinChange_next h
    · exact hs
    · have hinactive := hheld hres
      exact ⟨houtputs, hheld, fun h => absurd (hres.symm.trans h) (by decide), hactive⟩
    · exact holdSound_setStopPin hs rfl
    · exact holdSound_acceptStop hrun' hs _
    · exact holdSound_setStopPin hs rfl
  | stopQualificationEnd =>
    obtain rfl | ⟨hrun', rfl⟩ := execStopQualificationEnd_next h
    · exact hs
    · exact holdSound_acceptStop hrun' hs s.input.stop
  | silenceExpiry =>
    obtain rfl | ⟨-, rfl⟩ := execSilenceExpiry_next h
    · exact hs
    · refine holdSound_dependsOn.of_sameBut (State.raise_sameBut _ _) (by decide) ?_
      exact holdSound_holdClaim
        (s := { s with protection := { s.protection with silenceTimer := none } }) hs .silence
  | setOutputs =>
    refine holdSound_dependsOn.serve (by decide) (fun r u data _ hs hu => ?_) h hs
    obtain ⟨pattern, -, rfl⟩ := setOutputsBody_executed hu
    exact hs
  | holdOutputs =>
    refine holdSound_dependsOn.serve (by decide) (fun r u data _ hs hu => ?_) h hs
    obtain rfl := holdOutputsBody_executed hu
    exact holdSound_holdClaim hs .host
  | releaseOutputs =>
    refine holdSound_dependsOn.serve (by decide) (fun r u data _ hs hu => ?_) h hs
    obtain ⟨pattern, hstop, rfl⟩ := releaseOutputsBody_executed hu
    obtain ⟨-, hheld, hrun, -⟩ := hs
    exact ⟨⟨nofun, fun h => absurd rfl h⟩, hheld, hrun, fun h => absurd (hstop.symm.trans h) (by decide)⟩
  | setSafe =>
    refine holdSound_dependsOn.serve (by decide) (fun r u data _ hs hu => ?_) h hs
    obtain ⟨pattern, rfl⟩ := setSafeBody_executed hu
    exact hs
  | setStop =>
    refine holdSound_dependsOn.serve (by decide) (fun r u data hr hs hu => ?_) h hs
    obtain ⟨enable, level, code, rfl⟩ := setStopBody_executed hu
    obtain ⟨hrun', -⟩ := State.newRequest?_eq_some.1 hr
    exact holdSound_evaluateStop (s := s.emptyIntake.stopWritten enable level code) hrun' hs.1 hs.2.2.2
  | _ => exact holdSound_dependsOn.exec h (by simp) hs

theorem tick_keeps_holdSound (s : State) (hs : HoldSound s) (_ : s.dueSteps = []) : HoldSound s.tick := by
  unfold State.tick
  split <;> exact hs

/-! ### What ends a hold -/

/-- The outputs are SAFE_HELD (R123). -/
def Held (s : State) : Prop := s.output.mode = .safeHeld

theorem held_dependsOn : DependsOn [.output] Held := by
  intro s t h hs
  rw [Held, show t.output = s.output from h .output (by simp)]
  exact hs

theorem held_evaluateStop {s : State} (hs : Held s) : Held s.evaluateStop := by
  obtain ⟨-, -, h⟩ | ⟨-, h⟩ := s.evaluateStop_cases <;> rw [h]
  · rfl
  · exact hs

/-- No command but RELEASE OUTPUTS ends a hold. -/
theorem exec_keeps_held {i : Instr} {s t : State} (hi : i ≠ .releaseOutputs) (hs : Held s) (h : exec i s = .next t) :
    Held t := by
  cases i with
  | powerOn =>
    cases h
    rfl
  | resetRelease rate pins stopPin rxd =>
    obtain rfl | ⟨-, rfl⟩ := execResetRelease_next h
    · exact hs
    · refine held_dependsOn.of_sameBut (State.raiseStart_sameBut _ _) (by decide) ?_
      rw [Held]
      obtain ⟨-, -, houtput⟩ | ⟨-, -, houtput⟩ := State.stopCheck_cases { s with
        held := false
        input := s.input.sample pins stopPin
        link := { s.link with rate := rate, line := if rxd then .idle else .waitingHigh } } <;> rw [houtput]
      exact hs
  | stopPinChange =>
    obtain rfl | ⟨-, rfl⟩ | ⟨-, -, rfl⟩ | ⟨-, rfl⟩ | ⟨-, -, -, rfl⟩ := execStopPinChange_next h
    · exact hs
    · exact hs
    · exact hs
    · exact held_evaluateStop hs
    · exact hs
  | stopQualificationEnd =>
    obtain rfl | ⟨-, rfl⟩ := execStopQualificationEnd_next h
    · exact hs
    · exact held_evaluateStop hs
  | silenceExpiry =>
    obtain rfl | ⟨-, rfl⟩ := execSilenceExpiry_next h
    · exact hs
    · rfl
  | setOutputs =>
    refine held_dependsOn.serve (by decide) (fun r u data _ hs hu => ?_) h hs
    obtain ⟨pattern, -, rfl⟩ := setOutputsBody_executed hu
    exact hs
  | holdOutputs =>
    refine held_dependsOn.serve (by decide) (fun r u data _ hs hu => ?_) h hs
    obtain rfl := holdOutputsBody_executed hu
    rfl
  | releaseOutputs => exact absurd rfl hi
  | setSafe =>
    refine held_dependsOn.serve (by decide) (fun r u data _ hs hu => ?_) h hs
    obtain ⟨pattern, rfl⟩ := setSafeBody_executed hu
    exact hs
  | setStop =>
    refine held_dependsOn.serve (by decide) (fun r u data _ hs hu => ?_) h hs
    obtain ⟨enable, level, code, rfl⟩ := setStopBody_executed hu
    exact held_evaluateStop hs
  | _ => exact held_dependsOn.exec h (by simp) hs

/-- While STOP is active RELEASE OUTPUTS does not end it either (R129). -/
theorem execReleaseOutputs_keeps_held {s t : State} (hstop : s.protection.stopActive = true) (hs : Held s)
    (h : execReleaseOutputs s = .next t) : Held t := by
  refine held_dependsOn.serve (by decide) (fun r u data _ hs hu => ?_) h hs
  obtain ⟨pattern, hinactive, -⟩ := releaseOutputsBody_executed hu
  exact absurd (hstop.symm.trans hinactive) (by decide)

end Sys2Proof.Machine

open Sys2Proof Sys2Proof.Machine Sys2Proof.Safety

/-- Settles O5: a hold claim adds its cause, the release empties the causes while STOP is not active, and every change of the STOP pin or
of its settings is followed by an evaluation. -/
theorem stepKeepsTheOutputsHeldByTheirCauses : Obligations.StepKeepsTheOutputsHeldByTheirCauses := by
  intro s t houtputs hstop h
  exact holdSound_dependsOn.step (by decide) (by decide) tick_keeps_holdSound exec_keeps_holdSound ⟨houtputs, hstop⟩ h

/-- Settles O13: every other command keeps the outputs held, and so does RELEASE OUTPUTS while STOP is active. -/
theorem onlyReleaseOutputsEndsTheHold : Obligations.OnlyReleaseOutputsEndsTheHold := by
  intro c s t hs h hlive
  have hnot : ¬ Held t := by simp [Held, hlive]
  obtain rfl : c = .releaseOutputs := by
    by_contra hc
    exact hnot (exec_keeps_held hc hs h)
  exact ⟨rfl, eq_false_of_ne_true fun hstop => hnot (execReleaseOutputs_keeps_held hstop hs h)⟩
end

section
/-! PROOFS. One step (log 1, log 2): every command answers, and the queue and the count of choices are the model's own. -/

namespace Sys2Proof.Machine

theorem serve_answers (kind : Byte) (body : Request → State → Verdict) (s : State) :
    ∃ t, serve kind body s = .next t := by
  obtain h | ⟨r, -, -, ⟨t, data, -, h⟩ | ⟨code, detail, -, h⟩⟩ := serve_cases kind body s <;> exact ⟨_, h⟩

/-- No command faults or is refused: each ends every branch of its meaning in a next state. -/
theorem exec_answers (i : Instr) (s : State) : ∃ t, exec i s = .next t := by
  cases i with
  | powerOn | resetRelease | inputPinChange | qualificationEnd | stopPinChange | stopQualificationEnd | occurrenceArrival
  | triggerArrival | timerExpiry | silenceExpiry | makeOffer | takeTimerExpiry | characterReceived | breakLimit | gapLimit
  | replay | badKind | arbiterChoice | frameEnd | startBit | breakEnd =>
    simp only [exec, execPowerOn, execResetRelease, execInputPinChange, execQualificationEnd, execStopPinChange,
      execStopQualificationEnd, execOccurrenceArrival, execTriggerArrival, execTimerExpiry, execSilenceExpiry,
      execMakeOffer, execTakeTimerExpiry, execCharacterReceived, execBreakLimit, execGapLimit, execReplay, execBadKind,
      execArbiterChoice, execFrameEnd, execStartBit, execBreakEnd]
    repeat' split
    all_goals exact ⟨_, rfl⟩
  | _ => exact serve_answers _ _ s

end Sys2Proof.Machine

open Sys2Proof Sys2Proof.Machine Sys2Proof.Slice0

/-- Settles O1: the front command is the branch of `step` for a queue that is not empty. -/
theorem stepRunsTheFrontCommand : Obligations.StepRunsTheFrontCommand := by
  intro c s rest hpending
  simp only [step, hpending]

/-- Settles O14: every branch of a command's meaning is a next state, and no command may touch the queue or the count. -/
theorem everyCommandAnswersAndLeavesTheQueue : Obligations.EveryCommandAnswersAndLeavesTheQueue := by
  intro c s
  obtain ⟨t, h⟩ := exec_answers c s
  have hframe := exec_sameBut h
  exact ⟨t, h, hframe.pending (by cases c <;> simp), hframe.choices (by cases c <;> simp)⟩
end

section
/-! PROOFS. The reply queue and the reply log (9.3), the restart window (9.6) and the assembly buffer (8.3): what every step keeps. -/

namespace Sys2Proof.Machine

open Sys2Proof.Safety

/-! ### The reply queue and the reply log -/

theorem repliesSound_dependsOn : DependsOn [.replyQueue, .replyLog] RepliesSound := by
  intro s t h hs
  have hqueue : t.command.replyQueue = s.command.replyQueue := h .replyQueue (by simp)
  have hlog : t.command.replyLog = s.command.replyLog := h .replyLog (by simp)
  rw [RepliesSound, hqueue, hlog]
  exact hs

/-- An answer that joins the log with a new sequence number leaves the numbers distinct (R159). -/
theorem nodup_joinLog {log : List LogEntry} {e : LogEntry} (hlog : (log.map LogEntry.sequence).Nodup)
    (hnew : ∀ x ∈ log, x.sequence ≠ e.sequence) : ((joinLog log e).map LogEntry.sequence).Nodup := by
  rw [joinLog_eq, List.map_drop]
  refine (List.drop_sublist _ _).nodup ?_
  rw [List.map_append, List.nodup_append]
  refine ⟨hlog, List.nodup_singleton _, ?_⟩
  simpa using hnew

theorem repliesSound_of_answers {i : Instr} {s t : State} (h : Answers i s t) (hs : RepliesSound s) : RepliesSound t := by
  obtain rfl | ⟨r, u, a, hr, hu, -, rfl⟩ := h
  · exact hs
  · obtain ⟨-, -, -, hnew, hroom⟩ := State.newRequest?_eq_some.1 hr
    have hqueue : u.command.replyQueue = s.command.replyQueue := hu.replyQueue (by cases i <;> simp)
    have hlog : u.command.replyLog = s.command.replyLog := hu.replyLog (by cases i <;> simp)
    refine ⟨?_, joinLog_length_le _ _, nodup_joinLog (hlog ▸ hs.2.2) (hlog ▸ hnew)⟩
    simp only [State.answerNew_command, hqueue, List.length_append, List.length_singleton]
    exact hroom

theorem exec_keeps_repliesSound (i : Instr) (s t : State) (hs : RepliesSound s) (h : exec i s = .next t) :
    RepliesSound t := by
  obtain ⟨hqueue, hlog, hdistinct⟩ := id hs
  cases i with
  | powerOn =>
    cases h
    exact ⟨Nat.zero_le _, Nat.zero_le _, List.nodup_nil⟩
  | replay =>
    obtain rfl | ⟨-, -, rfl | ⟨hroom, e, -, q, rfl⟩⟩ := execReplay_next h
    · exact hs
    · exact hs
    · refine ⟨?_, hlog, hdistinct⟩
      simp only [State.queueAnswer_command, List.length_append, List.length_singleton]
      exact hroom
  | arbiterChoice =>
    obtain rfl | ⟨-, -, ⟨n, rfl⟩ | ⟨f, rest, hqueue', rfl⟩ | ⟨e, -, rfl⟩⟩ := execArbiterChoice_next h
    · exact hs
    · exact hs
    · rw [hqueue', List.length_cons] at hqueue
      exact ⟨(Nat.le_succ _).trans hqueue, hlog, hdistinct⟩
    · exact hs
  | frameEnd =>
    obtain rfl | ⟨-, x, -, ⟨rfl, -⟩ | ⟨e, -, rfl⟩ | rfl⟩ := execFrameEnd_next h
    · exact hs
    · exact hs
    · exact repliesSound_dependsOn.of_sameBut (State.startTakeTimer_sameBut _ e) (by decide) hs
    · exact ⟨Nat.zero_le _, Nat.zero_le _, List.nodup_nil⟩
  | resetRelease | inputPinChange | qualificationEnd | stopPinChange | stopQualificationEnd | occurrenceArrival
  | triggerArrival | timerExpiry | silenceExpiry | makeOffer | takeTimerExpiry | characterReceived | breakLimit | gapLimit
  | startBit | breakEnd => exact repliesSound_dependsOn.exec h (by simp) hs
  | _ => exact repliesSound_of_answers (answers_of_takesRequest rfl h) hs

theorem tick_keeps_repliesSound (s : State) (hs : RepliesSound s) (_ : s.dueSteps = []) : RepliesSound s.tick := by
  unfold State.tick
  split <;> exact hs

/-! ### The restart window -/

/-- The REPLY to RESTART waits in the reply queue. -/
def RestartReplyWaits (s : State) : Prop := (s.command.replyQueue.any fun f => isRestartReply f.answer) = true

/-- A window that is open. -/
theorem windowSound_of_open {s : State} (hw : s.command.window = true) :
    WindowSound s ↔ s.link.intake = none ∧ (RestartReplyWaits s ∨ sendsRestartReply s.link = true) := by
  rw [WindowSound, hw]
  rfl

/-- A window that is closed. -/
theorem windowSound_of_closed {s : State} (hw : s.command.window = false) :
    WindowSound s ↔ (s.command.replyQueue.any fun f => isRestartReply f.answer) = false ∧
      sendsRestartReply s.link = false ∧ (s.command.replyLog.any fun e => isRestartReply e.answer) = false := by
  rw [WindowSound, hw]
  rfl

theorem sendsRestartReply_congr {k l : LinkUnit} (h : l.sending = k.sending) : sendsRestartReply l = sendsRestartReply k := by
  simp only [sendsRestartReply, h]

theorem windowSound_dependsOn : DependsOn [.intake, .sending, .replyQueue, .replyLog, .window] WindowSound := by
  intro s t h hs
  have hintake : t.link.intake = s.link.intake := h .intake (by simp)
  have hsending : sendsRestartReply t.link = sendsRestartReply s.link := sendsRestartReply_congr (h .sending (by simp))
  have hqueue : t.command.replyQueue = s.command.replyQueue := h .replyQueue (by simp)
  have hlog : t.command.replyLog = s.command.replyLog := h .replyLog (by simp)
  have hwindow : t.command.window = s.command.window := h .window (by simp)
  simp only [WindowSound, hintake, hsending, hqueue, hlog, hwindow]
  exact hs

/-- Outside the window the intake slot does not matter. -/
theorem windowSound_of_closed_sameBut {s t : State} (hw : s.command.window = false) (h : SameBut [.intake, .notes] s t)
    (hs : WindowSound s) : WindowSound t := by
  rw [windowSound_of_closed hw] at hs
  rw [windowSound_of_closed ((h.window (by decide)).trans hw), h.replyQueue (by decide), h.replyLog (by decide),
    sendsRestartReply_congr (h.sending (by decide))]
  exact hs

theorem windowSound_of_answers {i : Instr} {s t : State} (hi : i ≠ .restart) (h : Answers i s t) (hs : WindowSound s) :
    WindowSound t := by
  obtain rfl | ⟨r, u, a, hr, hu, ha, rfl⟩ := h
  · exact hs
  · obtain ⟨-, hw, -⟩ := State.newRequest?_eq_some.1 hr
    obtain ⟨hqueue, hsending, hlog⟩ := (windowSound_of_closed hw).1 hs
    have ha : isRestartReply a = false := ha hi
    have hw' : u.command.window = false := (hu.window (by cases i <;> simp at hi ⊢)).trans hw
    have hqueue' : u.command.replyQueue = s.command.replyQueue := hu.replyQueue (by cases i <;> simp)
    have hlog' : u.command.replyLog = s.command.replyLog := hu.replyLog (by cases i <;> simp)
    have hsending' : u.link.sending = s.link.sending := hu.sending (by cases i <;> simp)
    refine (windowSound_of_closed (by exact hw')).2 ⟨?queue, (sendsRestartReply_congr hsending').trans hsending, ?log⟩
    case queue => simp [hqueue', hqueue, ha]
    case log =>
      rw [List.any_eq_false] at hlog ⊢
      intro e he
      obtain he | rfl := mem_joinLog he
      · exact hlog e (hlog' ▸ he)
      · simp [ha]

/-- The execution of RESTART queues its REPLY and opens the window, the slot emptied (R165). -/
theorem execRestart_keeps_windowSound {s t : State} (hs : WindowSound s) (h : execRestart s = .next t) : WindowSound t := by
  obtain rfl | ⟨r, hr, -, ⟨u, data, hu, rfl⟩ | ⟨code, detail, rfl⟩⟩ := serve_next h
  · exact hs
  · obtain rfl := restartBody_executed hu
    refine (windowSound_of_open rfl).2 ⟨rfl, .inl ?_⟩
    simp [RestartReplyWaits, isRestartReply]
  · exact windowSound_of_answers (i := .badKind) nofun (.inr ⟨r, _, _, hr, .refl _ _, fun _ => rfl, rfl⟩) hs

theorem windowSound_dispose {s : State} (hs : WindowSound s) (r : Request) : WindowSound (s.dispose r) := by
  cases hw : s.command.window with
  | true =>
    rw [State.dispose, if_pos hw]
    exact hs
  | false => exact windowSound_of_closed_sameBut hw (s.dispose_sameBut r) hs

theorem windowSound_assemble {s : State} (hs : WindowSound s) (data : Byte) : WindowSound (s.assemble data) := by
  obtain ⟨note, h⟩ | ⟨-, -, h⟩ | ⟨r, -, h⟩ := s.assemble_cases data <;> rw [h]
  · exact windowSound_dependsOn.of_sameBut (s.discardFrame_sameBut _) (by decide) hs
  · exact hs
  · refine windowSound_dispose (windowSound_dependsOn.of_sameBut (State.validSignal_sameBut _) (by decide) ?_) r
    exact hs

theorem windowSound_frameCharacter {s : State} (hs : WindowSound s) (data : Byte) (conditions : List Note) :
    WindowSound (s.frameCharacter data conditions) := by
  obtain h | ⟨-, h⟩ | ⟨-, h⟩ | h := s.frameCharacter_cases data conditions <;> rw [h]
  · exact hs
  · exact hs
  · exact windowSound_assemble hs data
  · exact windowSound_dependsOn.of_sameBut (s.discardFrame_sameBut _) (by decide) hs

/-- The frame that the arbiter takes from the queue is then being sent; what was sent before is nothing (R148, R149). -/
theorem execArbiterChoice_keeps_windowSound {s t : State} (hs : WindowSound s) (h : execArbiterChoice s = .next t) :
    WindowSound t := by
  obtain rfl | ⟨-, hfree, hcases⟩ := execArbiterChoice_next h
  · exact hs
  have hsends : sendsRestartReply s.link = false := by simp [sendsRestartReply, hfree]
  cases hw : s.command.window with
  | true =>
    obtain ⟨hintake, hwaits⟩ := (windowSound_of_open hw).1 hs
    have hwaits : RestartReplyWaits s := hwaits.resolve_right (by simp [hsends])
    obtain ⟨n, rfl⟩ | ⟨f, rest, hqueue, rfl⟩ | ⟨e, hqueue, rfl⟩ := hcases
    · exact (windowSound_of_open (by exact hw)).2 ⟨hintake, .inl hwaits⟩
    · refine (windowSound_of_open (by exact hw)).2 ⟨hintake, ?_⟩
      rw [RestartReplyWaits, hqueue, List.any_cons, Bool.or_eq_true] at hwaits
      exact hwaits.symm
    · rw [RestartReplyWaits, hqueue] at hwaits
      cases hwaits
  | false =>
    obtain ⟨hqueue, -, hlog⟩ := (windowSound_of_closed hw).1 hs
    obtain ⟨n, rfl⟩ | ⟨f, rest, hqueue', rfl⟩ | ⟨e, -, rfl⟩ := hcases
    · exact (windowSound_of_closed (by exact hw)).2 ⟨hqueue, rfl, hlog⟩
    · rw [hqueue', List.any_cons, Bool.or_eq_false_iff] at hqueue
      exact (windowSound_of_closed (by exact hw)).2 ⟨hqueue.2, hqueue.1, hlog⟩
    · exact (windowSound_of_closed (by exact hw)).2 ⟨hqueue, rfl, hlog⟩

/-- A frame other than the REPLY to RESTART leaves the transmitter, and the REPLY to RESTART waits on. -/
theorem windowSound_freed {s : State} {x : Sending} (hs : WindowSound s) (hsending : s.link.sending = some x)
    (hx : ∀ f, x.frame = .answer f → ∀ data, f.answer ≠ .reply 0x1A data) :
    WindowSound { s with link := { s.link with sending := none } } := by
  have hsends : sendsRestartReply s.link = false := by
    rw [sendsRestartReply, hsending]
    split
    · rename_i f elapsed heq
      cases heq
      cases ha : f.answer with
      | reply kind data => exact beq_false_of_ne fun hk => hx f rfl data (hk ▸ ha)
      | refused => rfl
    · rfl
  cases hw : s.command.window with
  | true =>
    obtain ⟨hintake, hwaits⟩ := (windowSound_of_open hw).1 hs
    exact (windowSound_of_open (by exact hw)).2 ⟨hintake, .inl (hwaits.resolve_right (by simp [hsends]))⟩
  | false =>
    obtain ⟨hqueue, -, hlog⟩ := (windowSound_of_closed hw).1 hs
    exact (windowSound_of_closed (by exact hw)).2 ⟨hqueue, rfl, hlog⟩

theorem exec_keeps_windowSound (i : Instr) (s t : State) (hs : WindowSound s) (h : exec i s = .next t) :
    WindowSound t := by
  cases i with
  | powerOn =>
    cases h
    exact (windowSound_of_closed rfl).2 ⟨rfl, rfl, rfl⟩
  | characterReceived =>
    obtain rfl | ⟨-, rfl⟩ := execCharacterReceived_next h
    · exact hs
    · exact windowSound_frameCharacter (s := { s with link := { s.link with line := .idle, gap := 0 } }) hs _ _
  | replay =>
    obtain rfl | ⟨-, hw, hcases⟩ := execReplay_next h
    · exact hs
    · have hempty : WindowSound s.emptyIntake :=
        windowSound_of_closed_sameBut hw (s.emptyIntake_sameBut.mono (by simp)) hs
      obtain rfl | ⟨-, e, he, q, rfl⟩ := hcases
      · exact hempty
      · obtain ⟨hqueue, hsending, hlog⟩ := (windowSound_of_closed (by exact hw)).1 hempty
        refine (windowSound_of_closed (by exact hw)).2 ⟨?_, hsending, hlog⟩
        have hnot : isRestartReply e.answer = false := by simpa using List.any_eq_false.1 hlog e he
        simpa [hnot] using hqueue
  | arbiterChoice => exact execArbiterChoice_keeps_windowSound hs h
  | frameEnd =>
    obtain rfl | ⟨-, x, hsending, ⟨rfl, hx⟩ | ⟨e, hx, rfl⟩ | rfl⟩ := execFrameEnd_next h
    · exact hs
    · exact windowSound_freed hs hsending hx
    · refine windowSound_dependsOn.of_sameBut (State.startTakeTimer_sameBut _ e) (by decide) ?_
      exact windowSound_freed hs hsending (by simp [hx])
    · exact (windowSound_of_closed rfl).2 ⟨rfl, rfl, rfl⟩
  | restart => exact execRestart_keeps_windowSound hs h
  | resetRelease | inputPinChange | qualificationEnd | stopPinChange | stopQualificationEnd | occurrenceArrival
  | triggerArrival | timerExpiry | silenceExpiry | makeOffer | takeTimerExpiry | breakLimit | gapLimit | startBit
  | breakEnd => exact windowSound_dependsOn.exec h (by simp) hs
  | _ => exact windowSound_of_answers (by simp) (answers_of_takesRequest rfl h) hs

theorem sendsRestartReply_later (l : LinkUnit) : sendsRestartReply l.later = sendsRestartReply l := by
  unfold sendsRestartReply LinkUnit.later
  cases l.sending with
  | none => rfl
  | some x =>
    obtain ⟨frame, elapsed⟩ := x
    cases frame <;> rfl

theorem tick_keeps_windowSound (s : State) (hs : WindowSound s) (_ : s.dueSteps = []) : WindowSound s.tick := by
  unfold State.tick
  split
  · exact hs
  · simp only [WindowSound, sendsRestartReply_later] at hs ⊢
    exact hs

/-! ### The assembly buffer -/

theorem receiverSound_dependsOn : DependsOn [.assembly] ReceiverSound := by
  intro s t h hs
  have hassembly := h .assembly (by simp)
  simp only [Part.read, Prod.mk.injEq] at hassembly
  simp only [ReceiverSound, hassembly.1, hassembly.2]
  exact hs

/-- HUNTING, with the buffer empty (R138, R142). -/
theorem receiverSound_of_hunting {s : State} (hframe : s.link.frame = .hunting) (hbuffer : s.link.buffer = []) :
    ReceiverSound s := by
  simp [ReceiverSound, hframe, hbuffer]

theorem receiverSound_discardFrame (s : State) (conditions : List Note) :
    ReceiverSound { s with link := s.link.discardFrame conditions } :=
  receiverSound_of_hunting rfl rfl

/-- A frame that is short of its end, by its length byte, holds fewer than L + 6 characters (R136). -/
theorem length_lt_of_not_complete {buffer : List Byte} {length : Byte} (hnone : completeFrame? buffer = none)
    (hlength : buffer[1]? = some length) (hle : buffer.length ≤ length.toNat + 6) :
    buffer.length < length.toNat + 6 := by
  refine lt_of_le_of_ne hle fun heq => ?_
  match buffer with
  | [] | [_] => cases hlength
  | [_, _] | [_, _, _] => simp at heq
  | lead :: l :: kind :: sequence :: rest =>
    obtain rfl : l = length := by simpa using hlength
    have hrest : rest.length = l.toNat + 2 := by simpa using heq
    simp [completeFrame?, hrest] at hnone

/-- The length byte of a buffer that one more character has joined, which may be that character. -/
theorem length_bound_append {lead data length : Byte} {rest : List Byte}
    (hbound : ∀ l ∈ (lead :: rest)[1]?, l.toNat ≤ 80 ∧ (lead :: rest).length < l.toNat + 6)
    (hdata : (lead :: rest ++ [data]).length = 2 → data.toNat ≤ 80) (h : (lead :: rest ++ [data])[1]? = some length) :
    length.toNat ≤ 80 ∧ (lead :: rest ++ [data]).length ≤ length.toNat + 6 := by
  cases rest with
  | nil =>
    obtain rfl : data = length := by simpa using h
    exact ⟨hdata rfl, by simp⟩
  | cons second rest =>
    obtain rfl : second = length := by simpa using h
    obtain ⟨hle, hlt⟩ := hbound second rfl
    simp only [List.length_append, List.length_cons, List.length_nil] at hlt ⊢
    exact ⟨hle, by omega⟩

theorem receiverSound_assemble {s : State} (hframe : s.link.frame = .assembling) (hs : ReceiverSound s) (data : Byte) :
    ReceiverSound (s.assemble data) := by
  obtain ⟨note, h⟩ | ⟨hlength, hnone, h⟩ | ⟨r, -, h⟩ := s.assemble_cases data <;> rw [h]
  · exact receiverSound_discardFrame s _
  · obtain ⟨-, hlead, hbound⟩ := hs
    have hlead := hlead hframe
    obtain ⟨b, rest, hbuffer⟩ : ∃ b rest, s.link.buffer = b :: rest := by
      cases hb : s.link.buffer with
      | nil => simp [hb] at hlead
      | cons b rest => exact ⟨b, rest, rfl⟩
    rw [hbuffer] at hbound hlength hnone hlead ⊢
    refine ⟨fun hhunting => absurd (hframe.symm.trans hhunting) (by decide), fun _ => hlead, fun length hlength' => ?_⟩
    obtain ⟨hle, hbound⟩ := length_bound_append hbound hlength hlength'
    exact ⟨hle, length_lt_of_not_complete hnone hlength' hbound⟩
  · refine receiverSound_dependsOn.of_sameBut (State.dispose_sameBut _ r) (by decide) ?_
    refine receiverSound_dependsOn.of_sameBut (State.validSignal_sameBut _) (by decide) ?_
    exact receiverSound_of_hunting rfl rfl

theorem receiverSound_frameCharacter {s : State} (hs : ReceiverSound s) (data : Byte) (conditions : List Note) :
    ReceiverSound (s.frameCharacter data conditions) := by
  obtain h | ⟨rfl, h⟩ | ⟨hframe, h⟩ | h := s.frameCharacter_cases data conditions <;> rw [h]
  · exact hs
  · simp [ReceiverSound]
  · exact receiverSound_assemble hframe hs data
  · exact receiverSound_discardFrame s _

theorem exec_keeps_receiverSound (i : Instr) (s t : State) (hs : ReceiverSound s) (h : exec i s = .next t) :
    ReceiverSound t := by
  cases i with
  | powerOn =>
    cases h
    exact receiverSound_of_hunting rfl rfl
  | characterReceived =>
    obtain rfl | ⟨-, rfl⟩ := execCharacterReceived_next h
    · exact hs
    · exact receiverSound_frameCharacter (s := { s with link := { s.link with line := .idle, gap := 0 } }) hs _ _
  | breakLimit =>
    obtain rfl | ⟨-, rfl | rfl⟩ := execBreakLimit_next h
    · exact hs
    · exact receiverSound_of_hunting rfl rfl
    · exact hs
  | gapLimit =>
    obtain rfl | ⟨-, rfl⟩ := execGapLimit_next h
    · exact hs
    · exact receiverSound_discardFrame s _
  | _ => exact receiverSound_dependsOn.exec h (by simp) hs

theorem tick_keeps_receiverSound (s : State) (hs : ReceiverSound s) (_ : s.dueSteps = []) : ReceiverSound s.tick := by
  unfold State.tick
  split <;> exact hs

end Sys2Proof.Machine

open Sys2Proof Sys2Proof.Machine Sys2Proof.Safety

/-- Settles O10: a character joins a frame that is short of its end, and an answer is queued and logged only for a new request and with a
free place. -/
theorem stepKeepsBufferQueueAndLogInBounds : Obligations.StepKeepsBufferQueueAndLogInBounds := by
  intro s t h
  exact ⟨fun hs => receiverSound_dependsOn.step (by decide) (by decide) tick_keeps_receiverSound exec_keeps_receiverSound hs h,
    fun hs => repliesSound_dependsOn.step (by decide) (by decide) tick_keeps_repliesSound exec_keeps_repliesSound hs h⟩

/-- Settles O11: RESTART alone queues its REPLY and opens the window, the end of that REPLY closes it, and in between the frame moves from
the queue to the transmitter. -/
theorem stepKeepsTheRestartWindowSound : Obligations.StepKeepsTheRestartWindowSound := by
  intro s t hs h
  exact windowSound_dependsOn.step (by decide) (by decide) tick_keeps_windowSound exec_keeps_windowSound hs h
end

section
/-! PROOFS. What is on its way (1.3, 5.4), and the power-on values while RESETn is low (9.5): what every step keeps. -/

namespace Sys2Proof.Machine

open Sys2Proof.Safety

/-! ### What is on its way -/

theorem transitSound_dependsOn : DependsOn [.occurrences, .triggers] TransitSound := by
  intro s t h hs
  have hoccurrences : t.event.arriving = s.event.arriving := h .occurrences (by simp)
  have htriggers : t.timer.arriving = s.timer.arriving := h .triggers (by simp)
  rw [TransitSound, hoccurrences, htriggers]
  exact hs

section
variable {s : State} (hs : TransitSound s)
include hs

/-- What has just arisen has been on its way for no time. -/
theorem transitSound_raise (o : Occurrence) : TransitSound (s.raise o) := by
  refine ⟨fun x hx => ?_, hs.2⟩
  obtain hx | hx := List.mem_append.1 hx
  · exact hs.1 x hx
  · rw [List.mem_singleton.1 hx]
    exact Nat.zero_le _

theorem transitSound_report (n : Fin 32) : TransitSound (s.report n) := by
  unfold State.report
  dsimp only
  split
  · refine ⟨(transitSound_raise hs _).1, fun x hx => ?_⟩
    obtain hx | hx := List.mem_append.1 hx
    · exact hs.2 x hx
    · rw [List.mem_singleton.1 hx]
      exact Nat.zero_le _
  · exact hs

theorem transitSound_acceptChange (n : Fin 32) : TransitSound (s.acceptChange n) :=
  transitSound_report (s := s.setChannel n (s.channel n).accepted) hs n

theorem transitSound_foldl_report (list : List (Fin 32)) : TransitSound (list.foldl State.report s) := by
  induction list generalizing s with
  | nil => exact hs
  | cons n rest ih => exact ih (transitSound_report hs n)

theorem transitSound_evaluateStop : TransitSound s.evaluateStop := by
  obtain ⟨-, -, h⟩ | ⟨-, h⟩ := s.evaluateStop_cases <;> rw [h]
  · exact ⟨(transitSound_raise hs .stop).1, hs.2⟩
  · exact hs

theorem transitSound_arrive (o : Occurrence) : TransitSound (s.arrive o) := by
  obtain h | ⟨c, -, -, -, h⟩ := s.arrive_cases o <;> rw [h]
  · exact hs
  · obtain ⟨-, h⟩ | ⟨-, t, rfl, h | h⟩ := s.captureClaim_cases o.source c <;> rw [h]
    · exact hs
    · exact hs
    · exact transitSound_raise (s := State.setSource _ _ _) hs _

theorem transitSound_stopCheck : TransitSound s.stopCheck := by
  unfold State.stopCheck
  dsimp only
  split
  · refine transitSound_arrive ?_ _
    exact hs
  · exact hs

end

theorem exec_keeps_transitSound (i : Instr) (s t : State) (hs : TransitSound s) (h : exec i s = .next t) :
    TransitSound t := by
  cases i with
  | powerOn =>
    cases h
    exact ⟨nofun, nofun⟩
  | resetRelease rate pins stopPin rxd =>
    obtain rfl | ⟨-, rfl⟩ := execResetRelease_next h
    · exact hs
    · refine transitSound_dependsOn.of_sameBut (State.raiseStart_sameBut _ _) (by decide) (transitSound_stopCheck ?_)
      exact hs
  | inputPinChange =>
    obtain rfl | ⟨n, ⟨-, rfl⟩ | ⟨-, -, rfl⟩ | ⟨-, rfl⟩ | ⟨-, -, -, rfl⟩⟩ := execInputPinChange_next h
    · exact hs
    · exact hs
    · exact hs
    · exact transitSound_acceptChange (s := s.setChannel n _) hs n
    · exact hs
  | qualificationEnd =>
    obtain rfl | ⟨-, n, rfl⟩ := execQualificationEnd_next h
    · exact hs
    · exact transitSound_acceptChange hs n
  | stopPinChange =>
    obtain rfl | ⟨-, rfl⟩ | ⟨-, -, rfl⟩ | ⟨-, rfl⟩ | ⟨-, -, -, rfl⟩ := execStopPinChange_next h
    · exact hs
    · exact hs
    · exact hs
    · exact transitSound_evaluateStop (s := State.setStopPin _ _) hs
    · exact hs
  | stopQualificationEnd =>
    obtain rfl | ⟨-, rfl⟩ := execStopQualificationEnd_next h
    · exact hs
    · exact transitSound_evaluateStop (s := State.setStopPin _ _) hs
  | occurrenceArrival =>
    obtain rfl | ⟨-, o, rest, hrest, rfl⟩ := execOccurrenceArrival_next h
    · exact hs
    · refine transitSound_arrive (s := { s with event := { s.event with arriving := rest } }) ?_ o
      exact ⟨fun x hx => hs.1 x (hrest hx), hs.2⟩
  | triggerArrival =>
    obtain rfl | ⟨-, c, age, rest, hrest, rfl⟩ := execTriggerArrival_next h
    · exact hs
    · exact ⟨hs.1, fun x hx => hs.2 x (hrest hx)⟩
  | timerExpiry =>
    obtain rfl | ⟨-, n, -, rfl⟩ := execTimerExpiry_next h
    · exact hs
    · exact transitSound_raise (s := s.setIntervalTimer n _) hs _
  | silenceExpiry =>
    obtain rfl | ⟨-, rfl⟩ := execSilenceExpiry_next h
    · exact hs
    · refine transitSound_raise ?_ _
      exact hs
  | frameEnd =>
    obtain rfl | ⟨-, x, -, ⟨rfl, -⟩ | ⟨e, -, rfl⟩ | rfl⟩ := execFrameEnd_next h
    · exact hs
    · exact hs
    · exact transitSound_dependsOn.of_sameBut (State.startTakeTimer_sameBut _ e) (by decide) hs
    · exact ⟨nofun, nofun⟩
  | setInput =>
    refine transitSound_dependsOn.serve (by decide) (fun r u data _ hs hu => ?_) h hs
    obtain ⟨edge, code, listed, rfl⟩ := setInputBody_executed hu
    refine transitSound_foldl_report ?_ _
    exact hs
  | setStop =>
    refine transitSound_dependsOn.serve (by decide) (fun r u data _ hs hu => ?_) h hs
    obtain ⟨enable, level, code, rfl⟩ := setStopBody_executed hu
    exact transitSound_evaluateStop (s := State.stopWritten _ _ _ _) hs
  | _ => exact transitSound_dependsOn.exec h (by simp) hs

/-- Nothing that has been on its way for a microsecond is left when no step is due (R4). -/
theorem arrivals_eq_nil_of_dueSteps_eq_nil {s : State} (hheld : s.held = false) (h : s.dueSteps = []) :
    s.arrivals true = [] := by
  simp only [State.dueSteps, hheld, Bool.false_eq_true, if_false, List.append_eq_nil_iff] at h
  exact h.2

theorem ages_eq_zero_of_dueSteps_eq_nil {s : State} (hheld : s.held = false) (h : s.dueSteps = []) :
    (∀ x ∈ s.event.arriving, x.age = 0) ∧ ∀ x ∈ s.timer.arriving, x.age = 0 := by
  have harrivals := arrivals_eq_nil_of_dueSteps_eq_nil hheld h
  simpa [State.arrivals, List.filter_eq_nil_iff] using harrivals

theorem tick_keeps_transitSound (s : State) (hs : TransitSound s) (hquiet : s.dueSteps = []) : TransitSound s.tick := by
  unfold State.tick
  split
  · exact hs
  · rename_i hheld
    obtain ⟨hoccurrences, htriggers⟩ := ages_eq_zero_of_dueSteps_eq_nil (eq_false_of_ne_true hheld) hquiet
    constructor
    · simp only [List.mem_map, forall_exists_index, and_imp, forall_apply_eq_imp_iff₂]
      exact fun x hx => (congrArg (· + 1) (hoccurrences x hx)).le
    · simp only [List.mem_map, forall_exists_index, and_imp, forall_apply_eq_imp_iff₂]
      exact fun x hx => (congrArg (· + 1) (htriggers x hx)).le

/-! ### While RESETn is low -/

theorem heldSound_of_not_held {s : State} (h : s.held = false) : HeldSound s := fun h' => absurd (h.symm.trans h') (by decide)

/-- A change of a channel's levels is all that a held part takes of its pins. -/
theorem heldSound_setChannel {s : State} (hs : HeldSound s) (n : Fin 32) {c : Channel} (hedge : c.edge = (s.channel n).edge)
    (hcode : c.code = (s.channel n).code) : HeldSound (s.setChannel n c) := by
  intro hheld
  obtain ⟨htimer, hevent, hcapture, hdelivery, hprotection, houtput, hlink, hcommand, hchannels⟩ := hs hheld
  refine ⟨htimer, hevent, hcapture, hdelivery, hprotection, houtput, hlink, hcommand, fun m => ?_⟩
  rw [State.channel_setChannel]
  split
  · rw [hedge, hcode]
    exact hchannels n
  · exact hchannels m

theorem heldSound_powerOn {s t : State} (h : execPowerOn s = .next t) : HeldSound t := by
  cases h
  refine fun _ => ⟨rfl, rfl, rfl, rfl, rfl, rfl, rfl, rfl, fun n => ?_⟩
  rw [State.channel_of_map (s := s) rfl]
  exact ⟨rfl, rfl⟩

/-- A held part stays so, moves a pin's levels, takes its power-on values again, or is released. -/
theorem exec_keeps_heldSound_of_held {i : Instr} {s t : State} (hheld : s.held = true) (hs : HeldSound s)
    (h : exec i s = .next t) : HeldSound t := by
  cases hi : actsWhileHeld i with
  | false => rwa [exec_of_held hheld hi h]
  | true =>
    cases i with
    | powerOn => exact heldSound_powerOn h
    | resetRelease rate pins stopPin rxd =>
      obtain rfl | ⟨-, rfl⟩ := execResetRelease_next h
      · exact hs
      · exact heldSound_of_not_held (((State.raiseStart_sameBut _ _).held (by decide)).trans
          ((State.stopCheck_sameBut _).held (by decide)))
    | inputPinChange =>
      obtain rfl | ⟨n, ⟨-, rfl⟩ | ⟨hrun, -⟩ | ⟨hrun, -⟩ | ⟨hrun, -⟩⟩ := execInputPinChange_next h
      · exact hs
      · exact heldSound_setChannel hs n rfl rfl
      all_goals exact absurd (hheld.symm.trans hrun) (by decide)
    | stopPinChange =>
      obtain rfl | ⟨-, rfl⟩ | ⟨hrun, -⟩ | ⟨hrun, -⟩ | ⟨hrun, -⟩ := execStopPinChange_next h
      · exact hs
      · exact hs
      all_goals exact absurd (hheld.symm.trans hrun) (by decide)
    | _ => cases hi

theorem exec_keeps_heldSound (i : Instr) (s t : State) (hs : HeldSound s) (h : exec i s = .next t) : HeldSound t := by
  cases hheld : s.held with
  | true => exact exec_keeps_heldSound_of_held hheld hs h
  | false =>
    by_cases hi : i = .powerOn
    · subst hi
      exact heldSound_powerOn h
    · exact heldSound_of_not_held (exec_held_of_not_held hheld hi h)

theorem tick_of_held {s : State} (h : s.held = true) : s.tick = s := if_pos h

theorem tick_held (s : State) : s.tick.held = s.held := by
  unfold State.tick
  split <;> rfl

theorem tick_keeps_heldSound (s : State) (hs : HeldSound s) (_ : s.dueSteps = []) : HeldSound s.tick := by
  cases hheld : s.held with
  | true => rwa [tick_of_held hheld]
  | false => exact heldSound_of_not_held ((tick_held s).trans hheld)

end Sys2Proof.Machine

open Sys2Proof Sys2Proof.Machine Sys2Proof.Safety

/-- Settles O12: what arises sets out at age 0, and no time passes while something is a microsecond old; a held part takes only its pins'
levels, its power-on values and the release. -/
theorem stepKeepsArrivalsInTimeAndPowerOnValuesWhileHeld :
    Obligations.StepKeepsArrivalsInTimeAndPowerOnValuesWhileHeld := by
  intro s t h
  exact ⟨fun hs => transitSound_dependsOn.step (by decide) (by decide) tick_keeps_transitSound exec_keeps_transitSound hs h,
    fun hs => step_keeps (fun _ _ hs => hs) (fun _ _ hs => hs) tick_keeps_heldSound exec_keeps_heldSound hs h⟩
end

section
/-! SUPPORT. The notice numbers (2.5): with few numbers held, one of the next ten is free. -/

namespace Sys2Proof.Machine

/-- Of the ten numbers that follow `c`, nine entries cannot hold all. -/
theorem exists_free_notice {held : List Byte} (h : held.length ≤ 9) (c : Byte) :
    ∃ k, 1 ≤ k ∧ k ≤ 10 ∧ c + BitVec.ofNat 8 k ∉ held := by
  by_contra hall
  have hinjective : Set.InjOn (fun k : Nat => c + BitVec.ofNat 8 (k + 1)) {k | k ∈ List.range 10} := by
    intro a ha b hb hab
    have ha : a < 10 := List.mem_range.1 ha
    have hb : b < 10 := List.mem_range.1 hb
    have hab := congrArg BitVec.toNat (BitVec.add_right_inj _ |>.1 hab)
    simp only [BitVec.toNat_ofNat] at hab
    omega
  have hnodup : ((List.range 10).map fun k => c + BitVec.ofNat 8 (k + 1)).Nodup :=
    List.Nodup.map_on (fun a ha b hb hab => hinjective ha hb hab) List.nodup_range
  have hsubset : ((List.range 10).map fun k => c + BitVec.ofNat 8 (k + 1)) ⊆ held := by
    intro x hx
    obtain ⟨k, hk, rfl⟩ := List.mem_map.1 hx
    have hk : k < 10 := List.mem_range.1 hk
    by_contra hfree
    exact hall ⟨k + 1, by omega, by omega, hfree⟩
  have hlength := (List.subperm_of_subset hnodup hsubset).length_le
  simp only [List.length_map, List.length_range] at hlength
  omega

/-- The next notice number: the first of the ten after `c` that is free (R34). -/
theorem nextNotice_spec {held : List Byte} (h : held.length ≤ 9) (c : Byte) :
    ∃ k, 1 ≤ k ∧ k ≤ 10 ∧ nextNotice held c = c + BitVec.ofNat 8 k ∧ nextNotice held c ∉ held ∧
      ∀ j, 1 ≤ j → j < k → c + BitVec.ofNat 8 j ∈ held := by
  obtain ⟨free, hfree1, hfree10, hfree⟩ := exists_free_notice h c
  obtain ⟨k, hk1, -, heq, hnot, hbefore⟩ := nextFree_spec held c 255 ⟨free, hfree1, by omega, hfree⟩
  have hk10 : k ≤ 10 := by
    by_contra hgt
    exact hfree (hbefore free hfree1 (by omega))
  exact ⟨k, hk1, hk10, heq, hnot, hbefore⟩

end Sys2Proof.Machine
end

section
/-! PROOFS. The source table (1.2): what the operations keep of its records. -/

namespace Sys2Proof.Machine

open Sys2Proof.Safety

/-! ### One account and one record -/

theorem accountSound_latchAccount {account : Option Account} (h : ∀ a ∈ account, Account.Sound a) (time : Time) :
    Account.Sound (latchAccount time account) := by
  cases account with
  | none => simp [latchAccount, Account.Sound]
  | some a =>
    obtain ⟨hpos, hle, -⟩ := h a rfl
    refine ⟨?_, ?_, iff_of_false nofun ?_⟩ <;> simp only [latchAccount] <;> omega

theorem accountSound_mergeAccount {e : Account} (he : Account.Sound e) {account : Option Account}
    (h : ∀ a ∈ account, Account.Sound a) : Account.Sound (mergeAccount e account) := by
  cases account with
  | none => exact he
  | some a =>
    obtain ⟨hpos, hle, -⟩ := h a rfl
    obtain ⟨hpos', hle', -⟩ := he
    refine ⟨?_, ?_, iff_of_false nofun ?_⟩ <;> simp only [mergeAccount] <;> omega

theorem recordSound_reset (n : Fin 42) : RecordSound n (SourceRecord.reset n) := by
  unfold SourceRecord.reset
  split
  · exact ⟨by omega, fun _ => nofun, fun _ => rfl, nofun, nofun⟩
  · exact ⟨fun _ => ⟨rfl, rfl, rfl, rfl⟩, by omega, fun _ => rfl, nofun, nofun⟩

section
variable {n : Fin 42} {r : SourceRecord} (hr : RecordSound n r)
include hr

theorem recordSound_account {account : Option Account} (h : ∀ a ∈ account, Account.Sound a) :
    RecordSound n { r with account := account } := by
  obtain ⟨hurgent, hlevel, hreport, hcapture, -⟩ := hr
  exact ⟨hurgent, hlevel, hreport, hcapture, h⟩

theorem recordSound_latch (time : Time) : RecordSound n (r.latch time) := by
  refine recordSound_account hr ?_
  rintro _ ⟨⟩
  exact accountSound_latchAccount hr.2.2.2.2 time

theorem recordSound_escalate (time : Time) (cause : Cause) : RecordSound n (r.escalate time cause) := by
  obtain ⟨hurgent, hlevel, -, -, haccount⟩ := hr
  refine ⟨fun h => ?_, hlevel, fun _ => rfl, nofun, ?_⟩
  · obtain ⟨hmask, hlevel', -, hring⟩ := hurgent h
    exact ⟨hmask, hlevel', rfl, hring⟩
  · rintro _ ⟨⟩
    exact accountSound_latchAccount haccount time

/-- A unit of budget is spent, the last with an escalation (R79, R9). -/
theorem recordSound_spend (hmode : r.mode = .capture) (time : Time) : RecordSound n (r.spend time) := by
  unfold SourceRecord.spend
  split
  · exact recordSound_escalate hr time _
  · rename_i hmore
    obtain ⟨hurgent, hlevel, -, hcapture, haccount⟩ := hr
    obtain ⟨hn, -, hle⟩ := hcapture hmode
    exact ⟨fun h => absurd hn (by omega), hlevel, fun h => absurd (hmode.symm.trans h) (by decide),
      fun _ => ⟨hn, Nat.one_le_iff_ne_zero.2 hmore, (Nat.sub_le ..).trans hle⟩, haccount⟩

theorem recordSound_mask (hn : n.val < 40) (m : Mask) : RecordSound n { r with mask := m } := by
  obtain ⟨-, hlevel, hreport, hcapture, haccount⟩ := hr
  exact ⟨by omega, hlevel, hreport, hcapture, haccount⟩

end

/-! ### The whole table -/

theorem sourcesSound_dependsOn : DependsOn [.sources] SourcesSound := by
  intro s t h hs n
  rw [State.source_congr (h .sources (by simp))]
  exact hs n

section
variable {s : State}

theorem sourcesSound_of_event_reset (h : s.event = .reset) : SourcesSound s := by
  intro n
  have hsource : s.source n = .reset n := by rw [State.source, h, EventUnit.reset, Table.get_ofFn]
  rw [hsource]
  exact recordSound_reset n

variable (hs : SourcesSound s)
include hs

theorem sourcesSound_setSource {n : Fin 42} {r : SourceRecord} (hr : RecordSound n r) : SourcesSound (s.setSource n r) := by
  intro m
  rw [State.source_setSource]
  split
  · rename_i hnm
    exact hnm ▸ hr
  · exact hs m

theorem sourcesSound_captureClaim {n : Fin 42} (hmode : (s.source n).mode = .capture) (c : Claim) :
    SourcesSound (s.captureClaim n c) := by
  obtain ⟨-, h⟩ | ⟨-, t, rfl, h⟩ := s.captureClaim_cases n c
  · rw [h]
    exact sourcesSound_setSource hs (recordSound_escalate (hs n) _ _)
  · have hspent := sourcesSound_setSource (s := s.setRingTo (s.source n).ring
      ((s.ring (s.source n).ring).append ((s.ring (s.source n).ring).recordFor n c s.input.filteredLevels))) hs
      (recordSound_spend (hs n) hmode c.time)
    obtain h | h := h <;> rw [h] <;> exact hspent

theorem sourcesSound_arrive (o : Occurrence) : SourcesSound (s.arrive o) := by
  obtain h | ⟨c, -, -, hmode, h⟩ := s.arrive_cases o <;> rw [h]
  · exact sourcesSound_setSource hs (recordSound_latch (hs _) _)
  · exact sourcesSound_captureClaim hs hmode c

theorem sourcesSound_stopCheck : SourcesSound s.stopCheck := by
  unfold State.stopCheck
  dsimp only
  split
  · refine sourcesSound_arrive ?_ _
    exact hs
  · exact hs

/-- MASK LIST changes the mask of maskable sources alone (R20, R21). -/
theorem sourcesSound_maskSources {listed : List (Fin 42)} (hlisted : ∀ n ∈ listed, n.val < 40) (m : Mask) :
    SourcesSound (s.maskSources m listed) := by
  intro n
  rw [Slice0.source_maskSources]
  split
  · rename_i hn
    exact recordSound_mask (hs n) (hlisted n hn) m
  · exact hs n

end

theorem recordSound_written {n : Fin 42} {old : SourceRecord} (hold : RecordSound n old) {mask : Mask} {level : Level}
    {mode : Mode} {ring : Fin 4} {budget : Byte} (hn : n.val < 40) (hcapture : mode = .capture → n.val < 36 ∧ budget ≠ 0)
    (hlevel : level ≠ .urgent) :
    RecordSound n
      { mask := mask, level := level, mode := mode, ring := ring, budget := if mode = .capture then budget.toNat else 0
        account := old.account } := by
  refine ⟨by omega, fun _ => hlevel, ?report, ?capture, hold.2.2.2.2⟩
  case report =>
    rintro rfl
    rfl
  case capture =>
    rintro rfl
    obtain ⟨hn36, hbudget⟩ := hcapture rfl
    have hzero : budget.toNat ≠ 0 := fun h => hbudget (BitVec.eq_of_toNat_eq h)
    have := budget.isLt
    exact ⟨hn36, by simp only [if_pos]; omega, by simp only [if_pos]; omega⟩

end Sys2Proof.Machine
end

section
/-! PROOFS. The service stack, the gate and the notices (2.2 to 2.6): what the operations of the delivery unit keep. -/

namespace Sys2Proof.Machine

open Sys2Proof.Safety

/-- What always holds of a delivery unit and the notice slot: the stack in its order and limits, the gate and the delivery state under an
offer, the settings, the notice numbers, and the waiting notice (R23 to R27, R34, R36, R37, R50). -/
structure DeliverySound (d : DeliveryUnit) (slot : Option EventNotice) : Prop where
  order : d.stack.Pairwise MayStandAbove
  limit : d.maskableEntries.length ≤ 6
  once : (d.stack.map Entry.source).Nodup
  entries : ∀ e ∈ d.stack, EntrySound e
  outerTaken : ∀ e ∈ d.stack.tail, e.phase = .taken
  underOffer : (∃ e ∈ d.stack, e.phase = .offered) → d.gate = .closed ∧ d.mode = .delivering
  timerRuns : d.takeTimer.isSome = true → ∃ e ∈ d.stack, e.phase = .offered
  settings : 1 ≤ d.takeTimeout ∧ d.takeTimeout ≤ 255 ∧ d.retryLimit ≤ 7
  notices : (d.stack.map Entry.notice).Nodup
  counterFree : d.noticeCounter ∉ d.stack.map Entry.notice
  slotIdle : d.takeTimer.isSome = true → slot = none
  slotEvent : ∀ e ∈ slot,
    (d.stack.head?.map fun o => (o.phase, o.event d.stack.length)) = some (ServicePhase.offered, e)

/-- Two urgent sources and six maskable entries make eight at most (R24, R25). -/
theorem length_stack_le {d : DeliveryUnit} (hlimit : d.maskableEntries.length ≤ 6)
    (honce : (d.stack.map Entry.source).Nodup) : d.stack.length ≤ 8 := by
  have hsplit : d.stack.length =
      d.maskableEntries.length + (d.stack.filter fun e => isUrgent e.source).length := by
    rw [DeliveryUnit.maskableEntries, Nat.add_comm]
    exact List.length_eq_length_filter_add _
  have hnodup : ((d.stack.filter fun e => isUrgent e.source).map Entry.source).Nodup :=
    (List.filter_sublist.map Entry.source).nodup honce
  have hsubset : (d.stack.filter fun e => isUrgent e.source).map Entry.source ⊆ [stopSource, silenceSource] := by
    intro n hn
    obtain ⟨e, he, rfl⟩ := List.mem_map.1 hn
    have hurgent : 40 ≤ e.source.val := of_decide_eq_true (List.mem_filter.1 he).2
    have := e.source.isLt
    simp only [List.mem_cons, List.not_mem_nil, or_false, stopSource, silenceSource, Fin.ext_iff]
    omega
  have hurgents := (List.subperm_of_subset hnodup hsubset).length_le
  simp only [List.length_map, List.length_cons, List.length_nil] at hurgents
  omega

theorem deliverySound_iff {s : State} :
    StackSound s ∧ OfferSound s ∧ NoticesSound s ∧ NoticeSlotSound s ↔ DeliverySound s.delivery s.link.noticeSlot := by
  constructor
  · rintro ⟨⟨horder, hlimit, honce, hentries, houter⟩, ⟨hunder, htimer, hsettings⟩, ⟨hnotices, hcounter, -⟩, hidle, hevent⟩
    exact ⟨horder, hlimit, honce, hentries, houter, hunder, htimer, hsettings, hnotices, hcounter, hidle, hevent⟩
  · rintro ⟨horder, hlimit, honce, hentries, houter, hunder, htimer, hsettings, hnotices, hcounter, hidle, hevent⟩
    exact ⟨⟨horder, hlimit, honce, hentries, houter⟩, ⟨hunder, htimer, hsettings⟩,
      ⟨hnotices, hcounter, length_stack_le hlimit honce⟩, hidle, hevent⟩

theorem deliverySound_reset : DeliverySound .reset none where
  order := .nil
  limit := Nat.zero_le _
  once := List.nodup_nil
  entries := nofun
  outerTaken := nofun
  underOffer := by rintro ⟨e, he, -⟩; cases he
  timerRuns := nofun
  settings := by decide
  notices := List.nodup_nil
  counterFree := nofun
  slotIdle := nofun
  slotEvent := nofun

namespace DeliverySound

variable {d : DeliveryUnit} {slot : Option EventNotice} (h : DeliverySound d slot)
include h

/-! ### The parts outside the stack -/

theorem emptySlot : DeliverySound d none := { h with slotIdle := fun _ => rfl, slotEvent := nofun }

theorem setSettings {timeout retry : Nat} (reentry : Bool) (hpos : 1 ≤ timeout) (hle : timeout ≤ 255) (hretry : retry ≤ 7) :
    DeliverySound { d with takeTimeout := timeout, retryLimit := retry, reentry := reentry } slot :=
  { h with settings := ⟨hpos, hle, hretry⟩ }

theorem setDelivering : DeliverySound { d with mode := .delivering } slot :=
  { h with underOffer := fun ho => ⟨(h.underOffer ho).1, rfl⟩ }

theorem setGate (hnone : ∀ e ∈ d.stack, e.phase ≠ .offered) (g : Gate) : DeliverySound { d with gate := g } slot :=
  { h with underOffer := fun ⟨e, he, ho⟩ => absurd ho (hnone e he) }

/-- The take timer goes on, or stops. -/
theorem setTimer {timer : Option Nat} (htimer : timer.isSome = true → d.takeTimer.isSome = true) :
    DeliverySound { d with takeTimer := timer } slot :=
  { h with timerRuns := fun ht => h.timerRuns (htimer ht), slotIdle := fun ht => h.slotIdle (htimer ht) }

/-- The take timer starts for an OFFERED entry whose notice does not wait (R37). -/
theorem startTimer (hoffered : ∃ e ∈ d.stack, e.phase = .offered) (timer : Option Nat) :
    DeliverySound { d with takeTimer := timer } none :=
  { h.emptySlot with timerRuns := fun _ => hoffered, slotIdle := fun _ => rfl }

theorem takeTimer_eq_none (hnone : ∀ e ∈ d.stack, e.phase ≠ .offered) : d.takeTimer = none := by
  by_contra hsome
  obtain ⟨e, he, ho⟩ := h.timerRuns (Option.isSome_iff_ne_none.2 hsome)
  exact hnone e he ho

theorem slot_eq_none (hnone : ∀ e ∈ d.stack, e.phase ≠ .offered) : slot = none := by
  refine Option.eq_none_iff_forall_not_mem.2 fun x hx => ?_
  have hevent := h.slotEvent x hx
  cases hstack : d.stack with
  | nil => simp [hstack] at hevent
  | cons e rest =>
    simp only [hstack, List.head?_cons, Option.map_some, Option.some.injEq, Prod.mk.injEq] at hevent
    exact hnone e (by simp [hstack]) hevent.1

/-! ### The innermost entry -/

variable {e : Entry} {rest : List Entry} (hstack : d.stack = e :: rest)
include hstack

theorem outer_not_offered : ∀ x ∈ rest, x.phase ≠ .offered := by
  intro x hx
  rw [h.outerTaken x (by rw [hstack]; exact hx)]
  exact nofun

theorem not_offered_of_taken (htaken : e.phase = .taken) : ∀ x ∈ d.stack, x.phase ≠ .offered := by
  intro x hx
  rw [hstack] at hx
  obtain rfl | hx := List.mem_cons.1 hx
  · rw [htaken]
    exact nofun
  · exact h.outer_not_offered hstack x hx

/-- A notice that waits is the innermost entry's, so its cancelling empties the slot (R36). -/
theorem cancelled : (slot.filter fun x => decide (x.notice ≠ e.notice)) = none := by
  cases hslot : slot with
  | none => rfl
  | some x =>
    have hevent := h.slotEvent x hslot
    simp only [hstack, List.head?_cons, Option.map_some, Option.some.injEq, Prod.mk.injEq] at hevent
    obtain ⟨-, rfl⟩ := hevent
    simp [Entry.event, Option.filter]

/-- The innermost entry replaced by one of the same source, level and notice: the take timer stopped, and at most its own notice
waiting. -/
theorem replaceInnermost {x : Entry} {slot' : Option EventNotice} (hsource : x.source = e.source) (hlevel : x.level = e.level)
    (hnotice : x.notice = e.notice) (hsound : EntrySound x)
    (hunder : x.phase = .offered → d.gate = .closed ∧ d.mode = .delivering)
    (hslot : ∀ n ∈ slot', x.phase = .offered ∧ x.event (rest.length + 1) = n) :
    DeliverySound { d with stack := x :: rest, takeTimer := none } slot' := by
  obtain ⟨horder, hlimit, honce, hentries, houter, -, -, hsettings, hnotices, hcounter, -, -⟩ := h
  simp only [DeliveryUnit.maskableEntries] at hlimit
  rw [hstack] at horder hlimit honce hentries houter hnotices hcounter
  refine ⟨?order, ?limit, ?once, ?entries, houter, ?under, nofun, hsettings, ?notices, ?counter, nofun, ?event⟩
  case order =>
    obtain ⟨habove, hrest⟩ := List.pairwise_cons.1 horder
    refine List.pairwise_cons.2 ⟨fun y hy => ?_, hrest⟩
    rw [MayStandAbove, hsource, hlevel]
    exact habove y hy
  case limit =>
    simp only [DeliveryUnit.maskableEntries, List.filter_cons, hsource] at hlimit ⊢
    split at hlimit
    · rename_i hurgent
      rw [if_pos hurgent]
      exact hlimit
    · rename_i hurgent
      rw [if_neg hurgent]
      exact hlimit
  case once => simpa only [List.map_cons, hsource] using honce
  case entries =>
    intro y hy
    obtain rfl | hy := List.mem_cons.1 hy
    · exact hsound
    · exact hentries y (List.mem_cons_of_mem _ hy)
  case under =>
    rintro ⟨y, hy, ho⟩
    obtain rfl | hy := List.mem_cons.1 hy
    · exact hunder ho
    · exact absurd (houter y hy) (by simp [ho])
  case notices => simpa only [List.map_cons, hnotice] using hnotices
  case counter => simpa only [List.map_cons, hnotice] using hcounter
  case event =>
    intro n hn
    obtain ⟨hphase, hevent⟩ := hslot n hn
    simp only [List.head?_cons, Option.map_some, hphase, List.length_cons, hevent]

/-- The innermost entry leaves the stack, with it its timer and its notice; those that remain are TAKEN. -/
theorem removeInnermost (g : Gate) (m : DeliveryState) :
    DeliverySound { d with stack := rest, gate := g, takeTimer := none, mode := m } none := by
  have hnone := h.outer_not_offered hstack
  obtain ⟨horder, hlimit, honce, hentries, houter, -, -, hsettings, hnotices, hcounter, -, -⟩ := h
  simp only [DeliveryUnit.maskableEntries] at hlimit
  rw [hstack] at horder hlimit honce hentries houter hnotices hcounter
  refine ⟨(List.pairwise_cons.1 horder).2, ?limit, (List.nodup_cons.1 honce).2,
    fun y hy => hentries y (List.mem_cons_of_mem _ hy), fun y hy => houter y (List.mem_of_mem_tail hy), ?under, nofun,
    hsettings, (List.nodup_cons.1 hnotices).2, fun hmem => hcounter (List.mem_cons_of_mem _ hmem), nofun, nofun⟩
  case limit => exact (((List.sublist_cons_self e rest).filter _).length_le).trans hlimit
  case under => exact fun ⟨y, hy, ho⟩ => absurd ho (hnone y hy)

end DeliverySound

/-! ### Offers -/

/-- Of three levels in this order the outer two are so too: more urgent, or both 3 (R24, R30). -/
theorem standsAbove_trans {a b c : Level} (hab : a.moreUrgent b = true ∨ (a = .level3 ∧ b = .level3))
    (hbc : b.moreUrgent c = true ∨ (b = .level3 ∧ c = .level3)) :
    a.moreUrgent c = true ∨ (a = .level3 ∧ c = .level3) := by
  obtain hab | ⟨rfl, rfl⟩ := hab
  · obtain hbc | ⟨rfl, rfl⟩ := hbc
    · exact .inl (decide_eq_true ((of_decide_eq_true hab).trans (of_decide_eq_true hbc)))
    · exact .inl hab
  · exact hbc

theorem inService_eq_false {d : DeliveryUnit} {n : Fin 42} : d.inService n = false ↔ ∀ e ∈ d.stack, e.source ≠ n := by
  simp [DeliveryUnit.inService]

/-- With no urgent entry on the stack, every entry is maskable. -/
theorem maskableEntries_eq_stack {d : DeliveryUnit} (h : (d.stack.any fun e => isUrgent e.source) = false) :
    d.maskableEntries = d.stack := by
  rw [DeliveryUnit.maskableEntries, List.filter_eq_self]
  simpa using h

/-- What makes a source a candidate, by its kind (R28, R29). -/
theorem isCandidate_cases {s : State} {n : Fin 42} (h : s.isCandidate n = true) :
    s.delivery.inService n = false ∧
      (n = stopSource ∨ (n = silenceSource ∧ s.delivery.inService stopSource = false) ∨
        (isUrgent n = false ∧ (s.delivery.stack.any fun e => isUrgent e.source) = false ∧
          s.delivery.maskableEntries.length < 6 ∧ s.delivery.levelTest (s.source n).level = true)) := by
  unfold State.isCandidate at h
  dsimp only at h
  split at h
  · rename_i hn
    simp only [Bool.and_eq_true, Bool.not_eq_true'] at h
    exact ⟨h.2, .inl hn⟩
  · rename_i hstop
    split at h
    · rename_i hsilence
      simp only [Bool.and_eq_true, Bool.not_eq_true'] at h
      exact ⟨hsilence ▸ h.2, .inr (.inl ⟨hsilence, h.1.2⟩)⟩
    · rename_i hsilence
      simp only [Bool.and_eq_true, Bool.not_eq_true', decide_eq_true_eq] at h
      obtain ⟨⟨⟨⟨⟨⟨-, -⟩, hservice⟩, -⟩, hurgent⟩, hlimit⟩, hlevel⟩ := h
      refine ⟨hservice, .inr (.inr ⟨?_, hurgent, hlimit, hlevel⟩)⟩
      simp only [stopSource, silenceSource, Fin.ext_iff] at hstop hsilence
      have := n.isLt
      refine decide_eq_false ?_
      change ¬ n.val = 40 at hstop
      change ¬ n.val = 41 at hsilence
      omega

theorem isCandidate_of_chosen {s : State} {n : Fin 42} (h : s.chosen? = some n) : s.isCandidate n = true := by
  unfold State.chosen? at h
  split at h
  · rename_i hstop
    cases h
    exact hstop
  · split at h
    · rename_i hsilence
      cases h
      exact hsilence
    · obtain ⟨level, -, hfind⟩ := List.exists_of_findSome?_eq_some h
      have hfound := List.find?_some hfind
      simp only [Bool.and_eq_true] at hfound
      exact hfound.1.2

/-- A candidate may stand above every entry there is (R24, R28, R29, R30). -/
theorem mayStandAbove_of_isCandidate {s : State} {n : Fin 42} (h : s.isCandidate n = true)
    (horder : s.delivery.stack.Pairwise MayStandAbove) {inner : Entry} (hsource : inner.source = n)
    (hlevel : inner.level = (s.source n).level) : ∀ x ∈ s.delivery.stack, MayStandAbove inner x := by
  obtain ⟨hservice, hkind⟩ := isCandidate_cases h
  rw [inService_eq_false] at hservice
  intro x hx
  have hxn := hservice x hx
  rw [MayStandAbove, hsource, hlevel]
  obtain rfl | ⟨rfl, hstop⟩ | ⟨hmaskable, hnone, -, htest⟩ := hkind
  · rw [if_pos (show isUrgent stopSource = true from rfl)]
    intro hurgent
    have hurgent : 40 ≤ x.source.val := of_decide_eq_true hurgent
    refine ⟨rfl, Fin.ext ?_⟩
    have hne : x.source.val ≠ 40 := fun heq => hxn (Fin.ext heq)
    have := x.source.isLt
    change x.source.val = 41
    omega
  · rw [if_pos (show isUrgent silenceSource = true from rfl)]
    intro hurgent
    have hurgent : 40 ≤ x.source.val := of_decide_eq_true hurgent
    have hne : x.source.val ≠ 41 := fun heq => hxn (Fin.ext heq)
    have hne' : x.source.val ≠ 40 := fun heq => inService_eq_false.1 hstop x hx (Fin.ext heq)
    have := x.source.isLt
    omega
  · rw [if_neg (by simp [hmaskable])]
    rw [DeliveryUnit.levelTest, maskableEntries_eq_stack hnone] at htest
    have hnone := List.any_eq_false.1 hnone
    refine ⟨eq_false_of_ne_true (hnone x hx), ?_⟩
    cases hstack : s.delivery.stack with
    | nil =>
      rw [hstack] at hx
      cases hx
    | cons e rest =>
      rw [hstack] at htest hx horder hnone
      simp only [Bool.or_eq_true, Bool.and_eq_true, decide_eq_true_eq] at htest
      have htop : (s.source n).level.moreUrgent e.level = true ∨ ((s.source n).level = .level3 ∧ e.level = .level3) :=
        htest.imp_right fun ⟨⟨_, hn⟩, he⟩ => ⟨hn, he⟩
      obtain rfl | hx := List.mem_cons.1 hx
      · exact htop
      · have habove := (List.pairwise_cons.1 horder).1 x hx
        rw [MayStandAbove, if_neg (hnone e List.mem_cons_self)] at habove
        exact standsAbove_trans htop habove.2

/-- The entry of an offer (R33). -/
def offerEntry (s : State) (n : Fin 42) (a : Account) : Entry :=
  { source := n, level := (s.source n).level, phase := .offered, notice := s.delivery.noticeCounter,
    savedGate := s.delivery.gate, attempts := 1, account := a }

theorem offer_delivery (s : State) (n : Fin 42) (a : Account) :
    (s.offer n a).delivery =
      { s.delivery with
        stack := offerEntry s n a :: s.delivery.stack
        gate := .closed
        noticeCounter := nextNotice ((offerEntry s n a :: s.delivery.stack).map Entry.notice) s.delivery.noticeCounter } := rfl

theorem slotFree_iff {s : State} :
    s.slotFree = true ↔
      s.delivery.mode = .delivering ∧ (∀ e ∈ s.delivery.stack, e.phase ≠ .offered) ∧ s.command.window = false := by
  simp [State.slotFree, DeliveryUnit.offered?, and_assoc]

theorem entrySound_offerEntry {s : State} (hs : SourcesSound s) {n : Fin 42} {a : Account}
    (ha : (s.source n).account = some a) : EntrySound (offerEntry s n a) := by
  obtain ⟨hurgent, hmaskable, -, -, haccount⟩ := hs n
  refine ⟨⟨fun hlevel => ?_, fun hn => ?_⟩, Nat.le_refl 1, by simp [offerEntry], haccount a ha⟩
  · exact decide_eq_true (not_lt.1 fun hlt => hmaskable hlt hlevel)
  · exact (hurgent (of_decide_eq_true hn)).2.1

/-- An offer of a candidate into the free slot (R33, R34). -/
theorem deliverySound_offer {s : State} (hsources : SourcesSound s) (h : DeliverySound s.delivery s.link.noticeSlot)
    {n : Fin 42} {a : Account} (hfree : s.slotFree = true) (hcandidate : s.isCandidate n = true)
    (ha : (s.source n).account = some a) : DeliverySound (s.offer n a).delivery (s.offer n a).link.noticeSlot := by
  obtain ⟨hmode, hnone, -⟩ := slotFree_iff.1 hfree
  obtain ⟨hservice, hkind⟩ := isCandidate_cases hcandidate
  have habove := mayStandAbove_of_isCandidate (inner := offerEntry s n a) hcandidate h.order rfl rfl
  have htimer := h.takeTimer_eq_none hnone
  have hlength := length_stack_le h.limit h.once
  rw [offer_delivery]
  refine ⟨List.pairwise_cons.2 ⟨habove, h.order⟩, ?limit, ?once, ?entries, ?outer, fun _ => ⟨rfl, hmode⟩, ?timer, h.settings,
    ?notices, ?counter, ?idle, ?event⟩
  case limit =>
    simp only [DeliveryUnit.maskableEntries, List.filter_cons]
    split
    · rename_i hmaskable
      obtain rfl | ⟨rfl, -⟩ | ⟨-, -, hlt, -⟩ := hkind
      · cases hmaskable
      · cases hmaskable
      · exact hlt
    · exact h.limit
  case once =>
    refine List.nodup_cons.2 ⟨fun hmem => ?_, h.once⟩
    obtain ⟨e, he, hen⟩ := List.mem_map.1 hmem
    exact inService_eq_false.1 hservice e he hen
  case entries =>
    intro e he
    obtain rfl | he := List.mem_cons.1 he
    · exact entrySound_offerEntry hsources ha
    · exact h.entries e he
  case outer =>
    intro e he
    cases hphase : e.phase with
    | taken => rfl
    | offered => exact absurd hphase (hnone e he)
  case timer => exact fun hsome => absurd hsome (by simp [htimer])
  case notices => exact List.nodup_cons.2 ⟨h.counterFree, h.notices⟩
  case counter =>
    obtain ⟨k, -, -, -, hfree, -⟩ := nextNotice_spec
      (held := (offerEntry s n a :: s.delivery.stack).map Entry.notice) (by simp; omega) s.delivery.noticeCounter
    exact hfree
  case idle => exact fun hsome => absurd hsome (by simp [htimer])
  case event =>
    rintro e ⟨⟩
    rfl

/-! ### Every step -/

/-- The source records, the delivery unit and the notice slot are sound. -/
def ServiceSound (s : State) : Prop := SourcesSound s ∧ DeliverySound s.delivery s.link.noticeSlot

theorem serviceSound_dependsOn : DependsOn [.sources, .delivery, .noticeSlot] ServiceSound := by
  intro s t h hs
  have hdelivery : t.delivery = s.delivery := h .delivery (by simp)
  have hslot : t.link.noticeSlot = s.link.noticeSlot := h .noticeSlot (by simp)
  refine ⟨sourcesSound_dependsOn s t (fun p hp => h p (by simp_all)) hs.1, ?_⟩
  rw [hdelivery, hslot]
  exact hs.2

section
variable {s : State} (hs : ServiceSound s)
include hs

theorem serviceSound_resend {e : Entry} {rest : List Entry} (hstack : s.delivery.stack = e :: rest)
    (hphase : e.phase = .offered) (hlimit : e.attempts ≤ s.delivery.retryLimit) : ServiceSound (s.resend e rest) := by
  obtain ⟨hsources, h⟩ := hs
  obtain ⟨hlevel, hpos, -, haccount⟩ := h.entries e (by simp [hstack])
  refine ⟨hsources, h.replaceInnermost hstack rfl rfl rfl ⟨hlevel, by simp, ?_, haccount⟩
    (fun _ => h.underOffer ⟨e, by simp [hstack], hphase⟩) ?_⟩
  · exact Nat.succ_le_succ (hlimit.trans h.settings.2.2)
  · rintro n ⟨⟩
    exact ⟨hphase, rfl⟩

theorem serviceSound_withdraw {e : Entry} {rest : List Entry} (hstack : s.delivery.stack = e :: rest)
    (htimer : s.delivery.takeTimer = some 0) : ServiceSound (s.withdraw e rest) := by
  obtain ⟨hsources, h⟩ := hs
  obtain ⟨-, -, -, haccount⟩ := h.entries e (by simp [hstack])
  constructor
  · refine sourcesSound_setSource hsources (recordSound_account (hsources e.source) ?_)
    rintro _ ⟨⟩
    exact accountSound_mergeAccount haccount (hsources e.source).2.2.2.2
  · have hslot : s.link.noticeSlot = none := h.slotIdle (by simp [htimer])
    change DeliverySound _ s.link.noticeSlot
    rw [hslot]
    exact h.removeInnermost hstack e.savedGate .suspended

theorem serviceSound_takeInnermost {e : Entry} {rest : List Entry} (hstack : s.delivery.stack = e :: rest) :
    ServiceSound (s.takeInnermost e rest) := by
  obtain ⟨hsources, h⟩ := hs
  have hslot : (s.link.cancelNotice e.notice).noticeSlot = none := by
    rw [LinkUnit.cancelNotice_eq]
    exact h.cancelled hstack
  refine ⟨hsources, ?_⟩
  change DeliverySound _ (s.link.cancelNotice e.notice).noticeSlot
  rw [hslot]
  exact h.replaceInnermost (x := { e with phase := .taken }) hstack rfl rfl rfl (h.entries e (by simp [hstack])) nofun nofun

theorem serviceSound_doneInnermost {e : Entry} {rest : List Entry} (hstack : s.delivery.stack = e :: rest) :
    ServiceSound (s.doneInnermost e rest) := by
  obtain ⟨hsources, h⟩ := hs
  have hremoved := h.removeInnermost hstack e.savedGate s.delivery.mode
  unfold State.doneInnermost
  split
  · rename_i hphase
    have hnone := h.not_offered_of_taken hstack hphase
    refine ⟨hsources, ?_⟩
    change DeliverySound { s.delivery with stack := rest, gate := e.savedGate } s.link.noticeSlot
    rw [h.slot_eq_none hnone]
    rwa [← h.takeTimer_eq_none hnone] at hremoved
  · refine ⟨hsources, ?_⟩
    change DeliverySound _ (s.link.cancelNotice e.notice).noticeSlot
    rw [show (s.link.cancelNotice e.notice).noticeSlot = none by
      rw [LinkUnit.cancelNotice_eq]; exact h.cancelled hstack]
    exact hremoved

theorem serviceSound_validSignal : ServiceSound s.validSignal := by
  obtain ⟨-, -, -, hevent, -, hdelivery, -, -, hlink, -⟩ := s.validSignal_frame
  refine ⟨fun n => ?_, ?_⟩
  · have hsource : s.validSignal.source n = s.source n := State.source_congr (by rw [hevent]) n
    rw [hsource]
    exact hs.1 n
  · rw [hdelivery, hlink]
    exact hs.2.setDelivering

theorem serviceSound_frameCharacter (data : Byte) (conditions : List Note) :
    ServiceSound (s.frameCharacter data conditions) := by
  obtain h | ⟨-, h⟩ | ⟨-, h⟩ | h := s.frameCharacter_cases data conditions <;> rw [h]
  · exact hs
  · exact hs
  · obtain ⟨note, h⟩ | ⟨-, -, h⟩ | ⟨r, -, h⟩ := s.assemble_cases data <;> rw [h]
    · exact hs
    · exact hs
    · refine serviceSound_dependsOn.of_sameBut (State.dispose_sameBut _ r) (by decide) (serviceSound_validSignal ?_)
      exact hs
  · exact hs

theorem serviceSound_startTakeTimer (e : EventNotice) : ServiceSound (s.startTakeTimer e) := by
  obtain h | ⟨hoffered, hslot, h⟩ := s.startTakeTimer_cases e <;> rw [h]
  · exact hs
  · refine ⟨hs.1, ?_⟩
    change DeliverySound _ s.link.noticeSlot
    rw [hslot]
    exact hs.2.startTimer hoffered _

end

theorem exec_keeps_serviceSound (i : Instr) (s t : State) (hs : ServiceSound s) (h : exec i s = .next t) :
    ServiceSound t := by
  cases i with
  | powerOn =>
    cases h
    exact ⟨sourcesSound_of_event_reset rfl, deliverySound_reset⟩
  | resetRelease rate pins stopPin rxd =>
    obtain rfl | ⟨-, rfl⟩ := execResetRelease_next h
    · exact hs
    · refine serviceSound_dependsOn.of_sameBut (State.raiseStart_sameBut _ _) (by decide) ⟨sourcesSound_stopCheck ?_, ?_⟩
      · exact hs.1
      · rw [(State.stopCheck_sameBut _).delivery (by decide), (State.stopCheck_sameBut _).noticeSlot (by decide)]
        exact hs.2
  | occurrenceArrival =>
    obtain rfl | ⟨-, o, rest, -, rfl⟩ := execOccurrenceArrival_next h
    · exact hs
    · refine ⟨sourcesSound_arrive (s := { s with event := { s.event with arriving := rest } }) hs.1 o, ?_⟩
      rw [(State.arrive_sameBut _ o).delivery (by decide), (State.arrive_sameBut _ o).noticeSlot (by decide)]
      exact hs.2
  | makeOffer =>
    obtain rfl | ⟨-, n, a, hfree, hchosen, haccount, rfl⟩ := execMakeOffer_next h
    · exact hs
    · exact ⟨sourcesSound_setSource hs.1 (recordSound_account (hs.1 n) nofun),
        deliverySound_offer hs.1 hs.2 hfree (isCandidate_of_chosen hchosen) haccount⟩
  | takeTimerExpiry =>
    obtain rfl | ⟨-, e, rest, htimer, hstack, hphase, ⟨hlimit, rfl⟩ | rfl⟩ := execTakeTimerExpiry_next h
    · exact hs
    · exact serviceSound_resend hs hstack hphase hlimit
    · exact serviceSound_withdraw hs hstack htimer
  | characterReceived =>
    obtain rfl | ⟨-, rfl⟩ := execCharacterReceived_next h
    · exact hs
    · exact serviceSound_frameCharacter (s := { s with link := { s.link with line := .idle, gap := 0 } }) hs _ _
  | arbiterChoice =>
    obtain rfl | ⟨-, -, ⟨n, rfl⟩ | ⟨f, rest, -, rfl⟩ | ⟨e, -, rfl⟩⟩ := execArbiterChoice_next h
    · exact hs
    · exact hs
    · exact hs
    · exact ⟨hs.1, hs.2.emptySlot⟩
  | frameEnd =>
    obtain rfl | ⟨-, x, -, ⟨rfl, -⟩ | ⟨e, -, rfl⟩ | rfl⟩ := execFrameEnd_next h
    · exact hs
    · exact hs
    · exact serviceSound_startTakeTimer (s := { s with link := { s.link with sending := none } }) hs e
    · exact ⟨sourcesSound_of_event_reset rfl, deliverySound_reset⟩
  | setSource =>
    refine serviceSound_dependsOn.serve (by decide) (fun r u data _ hs hu => ?_) h hs
    obtain ⟨n, mask, level, mode, ring, budget, hn, hcapture, hlevel, rfl⟩ := setSourceBody_executed hu
    exact ⟨sourcesSound_setSource hs.1 (recordSound_written (hs.1 n) hn hcapture hlevel), hs.2⟩
  | maskList =>
    refine serviceSound_dependsOn.serve (by decide) (fun r u data _ hs hu => ?_) h hs
    obtain ⟨mask, listed, hlisted, rfl⟩ := maskListBody_executed hu
    exact ⟨sourcesSound_maskSources hs.1 hlisted mask, hs.2⟩
  | clearSource =>
    refine serviceSound_dependsOn.serve (by decide) (fun r u data _ hs hu => ?_) h hs
    obtain ⟨n, rfl⟩ := clearSourceBody_executed hu
    exact ⟨sourcesSound_setSource hs.1 (recordSound_account (hs.1 n) nofun), hs.2⟩
  | setDelivery =>
    refine serviceSound_dependsOn.serve (by decide) (fun r u data _ hs hu => ?_) h hs
    obtain ⟨timeout, retry, reentry, hpos, hle, hretry, rfl⟩ := setDeliveryBody_executed hu
    exact ⟨hs.1, hs.2.setSettings reentry hpos hle hretry⟩
  | gate =>
    refine serviceSound_dependsOn.serve (by decide) (fun r u data _ hs hu => ?_) h hs
    obtain ⟨gate, hnone, rfl⟩ := gateBody_executed hu
    exact ⟨hs.1, hs.2.setGate (by simpa [DeliveryUnit.offered?] using hnone) gate⟩
  | take =>
    refine serviceSound_dependsOn.serve (by decide) (fun r u data _ hs hu => ?_) h hs
    obtain rfl | ⟨e, rest, hstack, -, rfl⟩ := takeBody_executed hu
    · exact hs
    · exact serviceSound_takeInnermost hs hstack
  | done =>
    refine serviceSound_dependsOn.serve (by decide) (fun r u data _ hs hu => ?_) h hs
    obtain ⟨e, rest, hstack, rfl⟩ := doneBody_executed hu
    exact serviceSound_doneInnermost hs hstack
  | _ => exact serviceSound_dependsOn.exec h (by simp) hs

theorem tick_keeps_serviceSound (s : State) (hs : ServiceSound s) (_ : s.dueSteps = []) : ServiceSound s.tick := by
  unfold State.tick
  split
  · exact hs
  · refine ⟨hs.1, hs.2.setTimer ?_⟩
    split <;> simp

end Sys2Proof.Machine

open Sys2Proof Sys2Proof.Machine Sys2Proof.Safety

/-- Settles O7: an offer pushes a candidate, which may stand above every entry, TAKE and a resend keep the innermost entry's place, and
DONE and a withdrawal remove it. -/
theorem stepKeepsSourcesAndStackSound : Obligations.StepKeepsSourcesAndStackSound := by
  intro s t hs h
  obtain ⟨hsources, hdelivery⟩ := hs
  obtain ⟨hsources', hdelivery'⟩ := serviceSound_dependsOn.step (by decide) (by decide) tick_keeps_serviceSound
    exec_keeps_serviceSound ⟨hsources, deliverySound_iff.1 hdelivery⟩ h
  exact ⟨hsources', deliverySound_iff.2 hdelivery'⟩
end

section
/-! SUPPORT. Sets of on/off items as numbers (R169), and values of several bytes: what each bit and each byte is. -/

namespace Sys2Proof.Machine

theorem flagsValue_cons (b : Bool) (rest : List Bool) : flagsValue (b :: rest) = Nat.bit b (flagsValue rest) := by
  cases b <;> simp [flagsValue, Nat.bit_val, Nat.add_comm]

/-- Bit `i` of a set's number is its item `i`. -/
theorem testBit_flagsValue (l : List Bool) (i : Nat) : (flagsValue l).testBit i = l.getD i false := by
  induction l generalizing i with
  | nil => simp [flagsValue]
  | cons b rest ih =>
    rw [flagsValue_cons]
    cases i with
    | zero => simp
    | succ j => rw [Nat.testBit_bit_succ, ih, List.getD_cons_succ]

theorem getLsbD_flagsValue {width : Nat} (l : List Bool) {i : Nat} (h : i < width) :
    (BitVec.ofNat width (flagsValue l)).getLsbD i = l.getD i false := by
  rw [BitVec.getLsbD_ofNat, testBit_flagsValue, decide_eq_true h, Bool.true_and]

/-- A value of one bit per channel shows each channel's level at the channel's number. -/
theorem getLsbD_channelFlags (channels : Table 32 Channel) (f : Channel → Bool) (n : Fin 32) :
    (BitVec.ofNat 32 (flagsValue (channels.toList.map f))).getLsbD n.val = f (channels.get n) := by
  rw [getLsbD_flagsValue _ n.isLt, List.getD_eq_getElem _ _ (by simp [channels.size_eq])]
  simp [Table.get]

theorem getLsbD_rawLevels (u : InputUnit) (n : Fin 32) : u.rawLevels.getLsbD n.val = (u.channels.get n).raw :=
  getLsbD_channelFlags ..

theorem getLsbD_filteredLevels (u : InputUnit) (n : Fin 32) :
    u.filteredLevels.getLsbD n.val = (u.channels.get n).filtered :=
  getLsbD_channelFlags ..

/-- The four bytes of a value put together again, high byte first. -/
theorem word32_extracted (w : BitVec 32) :
    word32 (w.extractLsb' 24 8) (w.extractLsb' 16 8) (w.extractLsb' 8 8) (w.extractLsb' 0 8) = w := by
  ext i hi
  simp only [word32]
  grind

theorem word16_extracted (w : BitVec 16) : w.extractLsb' 8 8 ++ w.extractLsb' 0 8 = w := by
  ext i hi
  simp only [BitVec.getElem_append, BitVec.getElem_extractLsb']
  grind

end Sys2Proof.Machine
end

section
/-! PROOFS. The requests to the source table (chapter 1): GET SOURCE and CLEAR SOURCE. -/

namespace Sys2Proof.Slice0

open Sys2Proof.Machine

section
variable (s : State) (kind sequence : Byte) {source : Byte}

theorem getSourceBody_of_bad_source (hsource : 41 < source.toNat) :
    getSourceBody ⟨kind, sequence, [source]⟩ s = .refused badFieldCode 0 := by
  simp only [getSourceBody, number?_eq_none.2 hsource]
  rfl

theorem clearSourceBody_of_bad_source (hsource : 41 < source.toNat) :
    clearSourceBody ⟨kind, sequence, [source]⟩ s = .refused badFieldCode 0 := by
  simp only [clearSourceBody, number?_eq_none.2 hsource]
  rfl

variable {n : Fin 42} (hn : n.val = source.toNat)
include hn

theorem getSourceBody_of_source :
    getSourceBody ⟨kind, sequence, [source]⟩ s =
      .executed s (source :: (s.source n).settingsBytes ++
        [boolCode (s.source n).isPending, byteOf (s.source n).repeatCount,
          phaseCode ((s.delivery.entryOf? n).map Entry.phase)] ++ accountTail (s.source n).account) := by
  simp only [getSourceBody, number?_eq_some.2 hn, field_some]

theorem clearSourceBody_of_source :
    clearSourceBody ⟨kind, sequence, [source]⟩ s =
      .executed (s.setSource n { s.source n with account := none }) [source, byteOf (s.source n).repeatCount] := by
  simp only [clearSourceBody, number?_eq_some.2 hn, field_some]

end

/-- Whether a source is pending, and its repeat count, 0 while it is not (R19). -/
theorem pendingBytes (r : SourceRecord) :
    [boolCode r.isPending, byteOf r.repeatCount] =
      match r.account with
      | none => [0, 0]
      | some a => [1, byteOf a.count] := by
  cases h : r.account <;> simp [boolCode, SourceRecord.isPending, SourceRecord.repeatCount, h, byteOf]

/-- The service phase in GET SOURCE's data: 0 while the source has no entry (R19). -/
theorem phaseCode_entryOf? (d : DeliveryUnit) (n : Fin 42) :
    phaseCode ((d.entryOf? n).map Entry.phase) =
      match d.stack.find? (fun e => decide (e.source = n)) with
      | none => 0
      | some e => if e.phase = .offered then 1 else 2 := by
  unfold DeliveryUnit.entryOf?
  cases d.stack.find? (fun e => decide (e.source = n)) with
  | none => rfl
  | some e => cases h : e.phase <;> simp [phaseCode, h]

end Sys2Proof.Slice0

open Sys2Proof Sys2Proof.Machine Sys2Proof.Slice0

/-- Settles O45: the record is the source's, and each of its parts that may be absent is coded as R19 says. -/
theorem getSourceReportsTheRecord : Obligations.GetSourceReportsTheRecord := by
  intro s sequence source hs
  refine ⟨fun hbad => refuses_of_body_refused rfl hs (getSourceBody_of_bad_source _ _ _ hbad), fun n hn => ?_⟩
  refine replies_of_body_executed rfl hs ((getSourceBody_of_source s.emptyIntake _ _ hn).trans ?_)
  have hpending := pendingBytes (s.source n)
  have hphase := phaseCode_entryOf? s.delivery n
  change Verdict.executed _ (source :: (s.source n).settingsBytes ++
    ([boolCode (s.source n).isPending, byteOf (s.source n).repeatCount] ++
      [phaseCode ((s.delivery.entryOf? n).map Entry.phase)]) ++ accountTail (s.source n).account) = _
  rw [hpending, hphase, ← List.append_assoc]
  rfl

/-- Settles O47: the one write empties the account, and the count in the REPLY is read before it. -/
theorem clearSourceDiscardsTheAccount : Obligations.ClearSourceDiscardsTheAccount := by
  intro s sequence source hs
  refine ⟨fun hbad => refuses_of_body_refused rfl hs (clearSourceBody_of_bad_source _ _ _ hbad), fun n hn => ?_⟩
  refine replies_of_body_executed rfl hs ((clearSourceBody_of_source s.emptyIntake _ _ hn).trans ?_)
  change Verdict.executed _ [source, byteOf (s.source n).repeatCount] = _
  cases haccount : (s.source n).account <;> simp only [SourceRecord.repeatCount, haccount] <;> rfl
end

section
/-! PROOFS. The requests on the inputs (5.7) and the time base (6.2): READ INPUTS, SET TIME and GET TIME. -/

namespace Sys2Proof.Slice0

open Sys2Proof.Machine

theorem setTimeBody_of_value (s : State) (kind sequence : Byte) (value : BitVec 32) :
    setTimeBody ⟨kind, sequence, bytes32 value⟩ s =
      .executed { s with timer := { s.timer with timeBase := value } } (bytes32 s.timer.timeBase) := by
  simp only [setTimeBody, bytes32, word32_extracted]

end Sys2Proof.Slice0

open Sys2Proof Sys2Proof.Machine Sys2Proof.Slice0

/-- Settles O49: each level stands at the bit of its channel, and the body changes nothing. -/
theorem readInputsReportsTheLevels : Obligations.ReadInputsReportsTheLevels := by
  intro s sequence hs
  exact ⟨s.input.rawLevels, s.input.filteredLevels, getLsbD_rawLevels s.input, getLsbD_filteredLevels s.input,
    replies_of_body_executed rfl hs rfl⟩

/-- Settles O52: the bytes of the payload are the value's, and the REPLY is made of the time base before the load. -/
theorem theTimeBaseIsLoadedAndRead : Obligations.TheTimeBaseIsLoadedAndRead := by
  intro s sequence
  exact ⟨fun value hs => replies_of_body_executed rfl hs (setTimeBody_of_value s.emptyIntake _ _ value),
    fun hs => replies_of_body_executed rfl hs rfl⟩
end

section
/-! PROOFS. The requests on the capture rings (4.7): DRAIN RING and DISCARD RING. -/

namespace Sys2Proof.Slice0

open Sys2Proof.Machine

section
variable (s : State) (kind sequence : Byte) {ring : Byte}

theorem drainRingBody_of_bad_ring (maximum : Byte) (hring : 3 < ring.toNat) :
    drainRingBody ⟨kind, sequence, [ring, maximum]⟩ s = .refused badFieldCode 0 := by
  simp only [drainRingBody, number?_eq_none.2 hring]
  rfl

theorem discardRingBody_of_bad_ring (hring : 3 < ring.toNat) :
    discardRingBody ⟨kind, sequence, [ring]⟩ s = .refused badFieldCode 0 := by
  simp only [discardRingBody, number?_eq_none.2 hring]
  rfl

variable {n : Fin 4} (hring : n.val = ring.toNat)
include hring

theorem discardRingBody_of_ring :
    discardRingBody ⟨kind, sequence, [ring]⟩ s =
      .executed (s.setRingTo n { s.ring n with records := [] })
        ([ring, byteOf (s.ring n).records.length] ++ bytes16 (s.ring n).counter) := by
  simp only [discardRingBody, number?_eq_some.2 hring, field_some]

variable {maximum : Byte}

theorem drainRingBody_of_bad_maximum (hmaximum : maximum.toNat = 0 ∨ 6 < maximum.toNat) :
    drainRingBody ⟨kind, sequence, [ring, maximum]⟩ s = .refused badFieldCode 1 := by
  simp only [drainRingBody, number?_eq_some.2 hring, field_some, bounded?_eq_none.2 (hmaximum.imp_left Nat.lt_one_iff.2)]
  rfl

/-- R90, R91: the records are cut where the maximum, or the end of the ring, is. -/
theorem drainRingBody_of_maximum (hpos : 1 ≤ maximum.toNat) (hle : maximum.toNat ≤ 6) {returned kept : List CaptureRecord}
    (hrecords : (s.ring n).records = returned ++ kept)
    (hlength : returned.length = min maximum.toNat (s.ring n).records.length) :
    drainRingBody ⟨kind, sequence, [ring, maximum]⟩ s =
      .executed (s.setRingTo n { s.ring n with records := kept })
        ([ring, byteOf returned.length, byteOf kept.length] ++ (returned.map CaptureRecord.bytes).flatten) := by
  obtain ⟨htake, hdrop⟩ : (s.ring n).records.take maximum.toNat = returned ∧ (s.ring n).records.drop maximum.toNat = kept := by
    rw [hrecords, List.length_append] at hlength
    obtain hle | hge : maximum.toNat = returned.length ∨ kept = [] ∧ returned.length ≤ maximum.toNat := by
      rw [← List.length_eq_zero_iff]
      omega
    · simp [hrecords, hle]
    · simp [hrecords, hge]
  simp only [drainRingBody, number?_eq_some.2 hring, field_some, bounded?_eq_some.2 ⟨hpos, hle, rfl⟩, htake, hdrop,
    List.flatMap_def]

end

end Sys2Proof.Slice0

open Sys2Proof Sys2Proof.Machine Sys2Proof.Slice0

/-- Settles O54: one equation of each body for each check, and one for the cut of the records. -/
theorem ringsAreDrainedAndDiscarded : Obligations.RingsAreDrainedAndDiscarded := by
  intro s sequence ring
  refine ⟨fun maximum hs => ⟨fun hbad => ?_, fun hin hbad => ?_, fun n returned kept hn hpos hle hrecords hlength => ?_⟩,
    fun hs => ⟨fun hbad => ?_, fun n hn => ?_⟩⟩
  · exact refuses_of_body_refused rfl hs (drainRingBody_of_bad_ring _ _ _ _ hbad)
  · exact refuses_of_body_refused rfl hs
      (drainRingBody_of_bad_maximum (n := ⟨ring.toNat, by omega⟩) _ _ _ rfl hbad)
  · exact replies_of_body_executed rfl hs (drainRingBody_of_maximum s.emptyIntake _ _ hn hpos hle hrecords hlength)
  · exact refuses_of_body_refused rfl hs (discardRingBody_of_bad_ring _ _ _ hbad)
  · exact replies_of_body_executed rfl hs (discardRingBody_of_ring s.emptyIntake _ _ hn)
end

section
/-! PROOFS. The guarded requests without a check of their own (3.9.2, 7.4.4, 9.6): SET SAFE, SET SILENCE and RESTART. -/

namespace Sys2Proof.Slice0

open Sys2Proof.Machine

section
variable (s : State) (kind : Byte) {sequence guard : Byte} (hguard : guard = 255 - sequence)
include hguard

theorem setSafeBody_of_guard (pattern : Byte) :
    setSafeBody ⟨kind, sequence, [guard, pattern]⟩ s =
      .executed { s with output := { s.output with safePattern := pattern } } [pattern, s.output.mode.code] :=
  guarded_right (r := ⟨kind, sequence, [guard, pattern]⟩) hguard _

theorem setSilenceBody_of_guard (timeout : Byte) :
    setSilenceBody ⟨kind, sequence, [guard, timeout]⟩ s =
      .executed
        { s with
          protection := { s.protection with
            silenceTimeout := timeout.toNat, silenceTimer := silenceTimerFor timeout.toNat } }
        [timeout] :=
  guarded_right (r := ⟨kind, sequence, [guard, timeout]⟩) hguard _

theorem restartBody_of_guard :
    restartBody ⟨kind, sequence, [guard]⟩ s = .executed { s with command := { s.command with window := true } } [] :=
  guarded_right (r := ⟨kind, sequence, [guard]⟩) hguard _

end

/-- The silence timer of a timeout byte: in units of 10 ms (R61, R68). -/
theorem silenceTimerFor_toNat (timeout : Byte) :
    silenceTimerFor timeout.toNat = if timeout = 0 then none else some (timeout.toNat * 10000) := by
  simp only [silenceTimerFor, ← BitVec.toNat_inj]
  rfl

end Sys2Proof.Slice0

open Sys2Proof Sys2Proof.Machine Sys2Proof.Slice0

/-- Settles O57: the one write is of the safe pattern, which is what the pins show in SAFE_HELD alone. -/
theorem setSafeWritesTheSafePattern : Obligations.SetSafeWritesTheSafePattern := by
  intro s sequence guard pattern hs hguard
  rw [← complement_iff] at hguard
  refine ⟨_, replies_of_body_executed rfl hs (setSafeBody_of_guard s.emptyIntake _ hguard pattern), rfl,
    fun hheld => State.outputLines_of_safeHeld hheld, fun hlive => ?_⟩
  rw [State.outputLines_of_live hlive]
  exact State.outputLines_of_live hlive

/-- Settles O59: the timer starts afresh with the timeout just written, and does not run with a timeout of 0. -/
theorem setSilenceStartsOrStopsTheTimer : Obligations.SetSilenceStartsOrStopsTheTimer := by
  intro s sequence guard timeout hs hguard
  rw [← complement_iff] at hguard
  rw [← silenceTimerFor_toNat]
  exact replies_of_body_executed rfl hs (setSilenceBody_of_guard s.emptyIntake _ hguard timeout)

/-- Settles O60: past the guard the body writes the window alone. -/
theorem restartOpensTheWindow : Obligations.RestartOpensTheWindow := by
  intro s sequence guard hs hguard
  rw [← complement_iff] at hguard
  exact replies_of_body_executed rfl hs (restartBody_of_guard s.emptyIntake _ hguard)
end

section
/-! PROOFS. The requests on the delivery unit (2.8): TAKE, DONE, GATE and SET DELIVERY. -/

namespace Sys2Proof.Machine

theorem Gate.ofCode?_eq_none {b : Byte} : Gate.ofCode? b = none ↔ 1 < b.toNat := by
  unfold Gate.ofCode?
  split <;> simp_all
  omega

theorem Gate.ofCode?_of_toNat_le_one {b : Byte} (h : b.toNat ≤ 1) :
    Gate.ofCode? b = some (if b = 1 then .opened else .closed) := by
  obtain rfl | rfl := eq_zero_or_one_of_toNat_le_one h <;> rfl

theorem Gate.code_ite_of_toNat_le_one {b : Byte} (h : b.toNat ≤ 1) : (if b = 1 then Gate.opened else .closed).code = b := by
  obtain rfl | rfl := eq_zero_or_one_of_toNat_le_one h <;> rfl

theorem offered?_eq_none {d : DeliveryUnit} : d.offered? = none ↔ ∀ e ∈ d.stack, e.phase = .taken := by
  simp only [DeliveryUnit.offered?, List.find?_eq_none, decide_eq_true_eq]
  refine forall₂_congr fun e _ => ?_
  cases e.phase <;> simp

/-- The one OFFERED entry there is. -/
theorem offered?_eq_some_of_unique {d : DeliveryUnit} {e : Entry} (he : e ∈ d.stack) (hphase : e.phase = .offered)
    (hunique : ∀ x ∈ d.stack, x.phase = .offered → x = e) : d.offered? = some e := by
  cases h : d.offered? with
  | none => exact absurd (offered?_eq_none.1 h e he) (by simp [hphase])
  | some x =>
    have hfound := List.find?_some (p := fun e => decide (Entry.phase e = .offered)) h
    rw [hunique x (List.mem_of_find?_eq_some h) (of_decide_eq_true hfound)]

end Sys2Proof.Machine

namespace Sys2Proof.Slice0

open Sys2Proof.Machine

section
variable (s : State) (kind sequence : Byte)

/-! ### SET DELIVERY -/

section
variable {timeout retry reentry : Byte}

theorem setDeliveryBody_of_bad_timeout (htimeout : timeout = 0) :
    setDeliveryBody ⟨kind, sequence, [timeout, retry, reentry]⟩ s = .refused badFieldCode 0 := by
  have hbounded : bounded? 1 255 timeout = none := bounded?_eq_none.2 (.inl (by simp [htimeout]))
  simp only [setDeliveryBody, hbounded]
  rfl

variable (htimeout : timeout ≠ 0)
include htimeout

theorem bounded?_timeout : bounded? 1 255 timeout = some timeout.toNat :=
  bounded?_eq_some.2 ⟨Nat.one_le_iff_ne_zero.2 (by simpa [← BitVec.toNat_inj] using htimeout), by have := timeout.isLt; omega, rfl⟩

theorem setDeliveryBody_of_bad_retry (hretry : 7 < retry.toNat) :
    setDeliveryBody ⟨kind, sequence, [timeout, retry, reentry]⟩ s = .refused badFieldCode 1 := by
  simp only [setDeliveryBody, bounded?_timeout htimeout, field_some, bounded?_eq_none.2 (.inr hretry)]
  rfl

variable (hretry : retry.toNat ≤ 7)
include hretry

theorem setDeliveryBody_of_bad_reentry (hreentry : 1 < reentry.toNat) :
    setDeliveryBody ⟨kind, sequence, [timeout, retry, reentry]⟩ s = .refused badFieldCode 2 := by
  simp only [setDeliveryBody, bounded?_timeout htimeout, field_some, bounded?_eq_some.2 ⟨Nat.zero_le _, hretry, rfl⟩,
    boolOfCode?_eq_none.2 hreentry]
  rfl

theorem setDeliveryBody_of_fields_in_range (hreentry : reentry.toNat ≤ 1) :
    setDeliveryBody ⟨kind, sequence, [timeout, retry, reentry]⟩ s =
      .executed
        { s with
          delivery := { s.delivery with
            takeTimeout := timeout.toNat, retryLimit := retry.toNat, reentry := reentry == 1 } }
        [timeout, retry, reentry] := by
  simp only [setDeliveryBody, bounded?_timeout htimeout, field_some, bounded?_eq_some.2 ⟨Nat.zero_le _, hretry, rfl⟩,
    boolOfCode?_of_toNat_le_one hreentry, boolCode_beq_one_of_toNat_le_one hreentry, byteOf_toNat]

end

/-! ### GATE -/

section
variable {value : Byte}

theorem gateBody_of_bad_value (hvalue : 1 < value.toNat) :
    gateBody ⟨kind, sequence, [value]⟩ s = .refused badFieldCode 0 := by
  simp only [gateBody, Gate.ofCode?_eq_none.2 hvalue]
  rfl

variable (hvalue : value.toNat ≤ 1)
include hvalue

theorem gateBody_of_offered {e : Entry} (hoffered : s.delivery.offered? = some e) :
    gateBody ⟨kind, sequence, [value]⟩ s = .refused offerOpenCode (byteOf e.source.val) := by
  simp only [gateBody, Gate.ofCode?_of_toNat_le_one hvalue, field_some, hoffered]

theorem gateBody_of_no_offered (htaken : ∀ e ∈ s.delivery.stack, e.phase = .taken) :
    gateBody ⟨kind, sequence, [value]⟩ s =
      .executed { s with delivery := { s.delivery with gate := if value = 1 then .opened else .closed } }
        [value, byteOf s.delivery.stack.length] := by
  simp only [gateBody, Gate.ofCode?_of_toNat_le_one hvalue, field_some, offered?_eq_none.2 htaken,
    Gate.code_ite_of_toNat_le_one hvalue]

end

/-! ### TAKE -/

section
variable {notice : Byte}

theorem takeBody_of_first {e : Entry} {rest : List Entry} (hstack : s.delivery.stack = e :: rest) (hphase : e.phase = .offered)
    (hnotice : e.notice = notice) :
    takeBody ⟨kind, sequence, [notice]⟩ s =
      .executed (s.takeInnermost e rest) [notice, 1, byteOf e.source.val, byteOf (rest.length + 1)] := by
  simp only [takeBody, hstack, if_pos (And.intro hphase hnotice)]
  rfl

/-- Without an innermost OFFERED entry of that number, the TAKEN entries decide. -/
theorem takeBody_of_not_first
    (hnot : ∀ e rest, s.delivery.stack = e :: rest → ¬ (e.phase = .offered ∧ e.notice = notice)) :
    takeBody ⟨kind, sequence, [notice]⟩ s = takeAgain notice s := by
  unfold takeBody
  dsimp only
  split
  · rename_i e rest hstack
    rw [if_neg (hnot e rest hstack)]
  · rfl

theorem takeAgain_of_taken {e : Entry} (he : e ∈ s.delivery.stack) (hnotice : e.notice = notice) (hphase : e.phase = .taken)
    (hunique : ∀ x ∈ s.delivery.stack, x.notice = notice → x = e) :
    takeAgain notice s = .executed s [notice, 2, byteOf e.source.val, byteOf s.delivery.stack.length] := by
  have hfind : (s.delivery.stack.find? fun e => e.notice = notice ∧ e.phase = .taken) = some e := by
    cases h : s.delivery.stack.find? fun e => e.notice = notice ∧ e.phase = .taken with
    | none => exact absurd (List.find?_eq_none.1 h e he) (by simp [hnotice, hphase])
    | some x =>
      have hfound : x.notice = notice ∧ x.phase = .taken := by simpa using List.find?_some h
      rw [hunique x (List.mem_of_find?_eq_some h) hfound.1]
  simp only [takeAgain, hfind]
  rfl

theorem takeAgain_of_no_entry (hnone : ∀ e ∈ s.delivery.stack, e.notice ≠ notice) :
    takeAgain notice s = .refused staleCode notice := by
  have hfind : (s.delivery.stack.find? fun e => e.notice = notice ∧ e.phase = .taken) = none :=
    List.find?_eq_none.2 fun e he => by simp [hnone e he]
  simp only [takeAgain, hfind]

end

/-! ### DONE -/

section
variable {source : Byte}

theorem doneBody_of_bad_source (hsource : 41 < source.toNat) :
    doneBody ⟨kind, sequence, [source]⟩ s = .refused badFieldCode 0 := by
  simp only [doneBody, number?_eq_none.2 hsource]
  rfl

theorem doneBody_of_innermost {e : Entry} {rest : List Entry} (hstack : s.delivery.stack = e :: rest)
    (hsource : e.source.val = source.toNat) :
    doneBody ⟨kind, sequence, [source]⟩ s =
      .executed (s.doneInnermost e rest) [source, e.savedGate.code, byteOf rest.length] := by
  simp only [doneBody, number?_eq_some.2 hsource, field_some, hstack, if_true]

theorem doneBody_of_not_innermost {e : Entry} {rest : List Entry} (hstack : s.delivery.stack = e :: rest)
    (hsource : e.source.val ≠ source.toNat) (hbelow : ∃ x ∈ rest, x.source.val = source.toNat) :
    doneBody ⟨kind, sequence, [source]⟩ s = .refused notInnermostCode source := by
  obtain ⟨x, hx, hxs⟩ := hbelow
  have hservice : s.delivery.inService x.source = true :=
    List.any_eq_true.2 ⟨x, hstack ▸ List.mem_cons_of_mem _ hx, by simp⟩
  have hne : e.source ≠ x.source := fun heq => hsource (heq ▸ hxs)
  simp only [doneBody, number?_eq_some.2 hxs, field_some, hstack, if_neg hne, hservice, if_true]

theorem doneBody_of_not_in_service (hin : source.toNat ≤ 41) (hnone : ∀ e ∈ s.delivery.stack, e.source.val ≠ source.toNat) :
    doneBody ⟨kind, sequence, [source]⟩ s = .refused notInServiceCode source := by
  have hnumber : number? 42 source.toNat = some ⟨source.toNat, by omega⟩ := number?_eq_some.2 rfl
  have hne : ∀ e ∈ s.delivery.stack, e.source ≠ ⟨source.toNat, by omega⟩ := fun e he heq => hnone e he (by rw [heq])
  have hservice := inService_eq_false.2 hne
  simp only [doneBody, hnumber, field_some]
  cases hstack : s.delivery.stack with
  | nil => rfl
  | cons e rest => simp [hne e (by simp [hstack]), hservice]

theorem doneInnermost_of_taken (e : Entry) (rest : List Entry) (hphase : e.phase = .taken) :
    s.doneInnermost e rest = { s with delivery := { s.delivery with stack := rest, gate := e.savedGate } } := by
  simp only [State.doneInnermost, hphase]

theorem doneInnermost_of_offered (e : Entry) (rest : List Entry) (hphase : e.phase = .offered) :
    s.doneInnermost e rest =
      { s with
        delivery := { s.delivery with stack := rest, gate := e.savedGate, takeTimer := none }
        link := { s.link with noticeSlot := s.link.noticeSlot.filter fun x => decide (x.notice ≠ e.notice) } } := by
  simp only [State.doneInnermost, hphase, LinkUnit.cancelNotice_eq]

end

end

end Sys2Proof.Slice0

open Sys2Proof Sys2Proof.Machine Sys2Proof.Slice0

/-- Settles O30: one equation of the body for each field, in their order, and one for the write. -/
theorem setDeliveryWritesTheSettings : Obligations.SetDeliveryWritesTheSettings := by
  intro s sequence timeout retry reentry hs
  refine ⟨fun hbad => ?_, fun htimeout hbad => ?_, fun htimeout hretry hbad => ?_, fun htimeout hretry hreentry => ?_⟩
  · exact refuses_of_body_refused rfl hs (setDeliveryBody_of_bad_timeout _ _ _ hbad)
  · exact refuses_of_body_refused rfl hs (setDeliveryBody_of_bad_retry _ _ _ htimeout hbad)
  · exact refuses_of_body_refused rfl hs (setDeliveryBody_of_bad_reentry _ _ _ htimeout hretry hbad)
  · exact replies_of_body_executed rfl hs
      (setDeliveryBody_of_fields_in_range s.emptyIntake _ _ htimeout hretry hreentry)

/-- Settles O29: the OFFERED entry, if there is one, is the only one, and its source is the detail. -/
theorem gateTakesTheRequestedValue : Obligations.GateTakesTheRequestedValue := by
  intro s sequence value hs
  refine ⟨fun hbad => ?_, fun e he hphase hunique hvalue => ?_, fun htaken hvalue => ?_⟩
  · exact refuses_of_body_refused rfl hs (gateBody_of_bad_value _ _ _ hbad)
  · exact refuses_of_body_refused rfl hs
      (gateBody_of_offered s.emptyIntake _ _ hvalue (offered?_eq_some_of_unique he hphase hunique))
  · exact replies_of_body_executed rfl hs (gateBody_of_no_offered s.emptyIntake _ _ hvalue htaken)

/-- Settles O27: the notice numbers being distinct, at most one entry holds the number, and its phase decides. -/
theorem takeAnswersFirstAgainOrStale : Obligations.TakeAnswersFirstAgainOrStale := by
  intro s sequence notice hs
  refine ⟨fun e rest hstack hphase hnotice => ?first, fun e he hnotice hphase hnodup => ?again, fun hnone => ?stale⟩
  case first =>
    refine replies_of_body_executed rfl hs ((takeBody_of_first s.emptyIntake _ _ hstack hphase hnotice).trans ?_)
    rw [State.takeInnermost, LinkUnit.cancelNotice_eq, hnotice]
    rfl
  case again =>
    have hunique : ∀ x ∈ s.delivery.stack, x.notice = notice → x = e := fun x hx hxn =>
      List.inj_on_of_nodup_map hnodup hx he (hxn.trans hnotice.symm)
    refine replies_of_body_executed rfl hs ((takeBody_of_not_first s.emptyIntake _ _ fun x rest hstack hx => ?_).trans
      (takeAgain_of_taken s.emptyIntake he hnotice hphase hunique))
    have hmem : x ∈ s.delivery.stack := by
      change s.delivery.stack = x :: rest at hstack
      simp [hstack]
    rw [hunique x hmem hx.2, hphase] at hx
    exact absurd hx.1 (by decide)
  case stale =>
    refine refuses_of_body_refused rfl hs ((takeBody_of_not_first s.emptyIntake _ _ fun x rest hstack hx => ?_).trans
      (takeAgain_of_no_entry s.emptyIntake hnone))
    change s.delivery.stack = x :: rest at hstack
    exact hnone x (by simp [hstack]) hx.2

/-- Settles O28: where the named source stands on the stack decides, and for the innermost entry its phase. -/
theorem doneRemovesTheInnermostEntry : Obligations.DoneRemovesTheInnermostEntry := by
  intro s sequence source hs
  refine ⟨fun e rest hstack hsource => ⟨fun hphase => ?taken, fun hphase => ?offered⟩,
    fun e rest hstack hsource hbelow => ?notInnermost, fun hin hnone => ?notInService, fun hbad => ?badField⟩
  case taken =>
    refine replies_of_body_executed rfl hs ((doneBody_of_innermost s.emptyIntake _ _ hstack hsource).trans ?_)
    rw [doneInnermost_of_taken _ _ _ hphase]
    rfl
  case offered =>
    refine replies_of_body_executed rfl hs ((doneBody_of_innermost s.emptyIntake _ _ hstack hsource).trans ?_)
    rw [doneInnermost_of_offered _ _ _ hphase]
    rfl
  case notInnermost =>
    exact refuses_of_body_refused rfl hs (doneBody_of_not_innermost s.emptyIntake _ _ hstack hsource hbelow)
  case notInService => exact refuses_of_body_refused rfl hs (doneBody_of_not_in_service s.emptyIntake _ _ hin hnone)
  case badField => exact refuses_of_body_refused rfl hs (doneBody_of_bad_source _ _ _ hbad)
end

section
/-! SUPPORT. The candidates and the choice among them (2.4), in the spec's terms. -/

namespace Sys2Proof.Slice0

open Sys2Proof.Machine

section
variable {s : State}

theorem inService_eq_true {n : Fin 42} : s.delivery.inService n = true ↔ InService s n := by
  simp [DeliveryUnit.inService]

theorem isPending_iff {n : Fin 42} : (s.source n).isPending = true ↔ (s.source n).account ≠ none := by
  rw [SourceRecord.isPending, Option.isSome_iff_ne_none]

theorem isCandidate_stop : s.isCandidate stopSource = true ↔ StopCandidate s := by
  rw [State.isCandidate, if_pos rfl, Bool.and_eq_true, isPending_iff, Bool.not_eq_true', ← Bool.not_eq_true, inService_eq_true]
  rfl

theorem isCandidate_silence : s.isCandidate silenceSource = true ↔ SilenceCandidate s := by
  rw [State.isCandidate, if_neg (by decide), if_pos rfl, Bool.and_eq_true, Bool.and_eq_true, isPending_iff, Bool.not_eq_true',
    Bool.not_eq_true', ← Bool.not_eq_true, ← Bool.not_eq_true, inService_eq_true, inService_eq_true, and_assoc]
  rfl

/-- The innermost maskable entry heads the maskable entries. -/
theorem head?_maskableEntries : s.delivery.maskableEntries.head? = innermostMaskable s := by
  rw [DeliveryUnit.maskableEntries, List.head?_filter, innermostMaskable]
  congr 1
  funext e
  rw [Bool.eq_iff_iff]
  simp [isUrgent]

/-- The level test in the order of levels (R29, R30). -/
theorem levelTest_iff {level : Level} :
    s.delivery.levelTest level = true ↔
      ∀ e ∈ innermostMaskable s,
        level.rank < e.level.rank ∨ (s.delivery.reentry = true ∧ level = .level3 ∧ e.level = .level3) := by
  rw [← head?_maskableEntries, DeliveryUnit.levelTest]
  cases s.delivery.maskableEntries <;> simp [Level.moreUrgent, and_assoc]

theorem not_urgent_iff {n : Fin 42} : isUrgent n = false ↔ n.val < 40 := by
  simp [isUrgent]

theorem isCandidate_maskable {n : Fin 42} (hn : n.val < 40) : s.isCandidate n = true ↔ MaskableCandidate s n := by
  have hstop : n ≠ stopSource := fun h => absurd hn (by rw [h]; decide)
  have hsilence : n ≠ silenceSource := fun h => absurd hn (by rw [h]; decide)
  have hurgent : (s.delivery.stack.any fun e => isUrgent e.source) = false ↔ ∀ e ∈ s.delivery.stack, e.source.val < 40 := by
    simp [isUrgent]
  have hlimit (h : ∀ e ∈ s.delivery.stack, e.source.val < 40) : s.delivery.maskableEntries = s.delivery.stack :=
    maskableEntries_eq_stack (hurgent.2 h)
  rw [State.isCandidate, if_neg hstop, if_neg hsilence]
  simp only [Bool.and_eq_true, isPending_iff, decide_eq_true_eq, Bool.not_eq_true', hurgent, levelTest_iff, and_assoc]
  rw [← Bool.not_eq_true, inService_eq_true]
  constructor
  · rintro ⟨hpending, hmask, hservice, hgate, hnone, hlength, htest⟩
    exact ⟨hn, hpending, hmask, hservice, hgate, hnone, hlimit hnone ▸ hlength, htest⟩
  · rintro ⟨-, hpending, hmask, hservice, hgate, hnone, hlength, htest⟩
    exact ⟨hpending, hmask, hservice, hgate, hnone, (hlimit hnone).symm ▸ hlength, htest⟩

/-- A candidate is one of the three kinds. -/
theorem isCandidate_imp {n : Fin 42} (h : s.isCandidate n = true) :
    (n = stopSource ∧ StopCandidate s) ∨ (n = silenceSource ∧ SilenceCandidate s) ∨ MaskableCandidate s n := by
  by_cases hn : n.val < 40
  · exact .inr (.inr ((isCandidate_maskable hn).1 h))
  · obtain rfl | rfl : n = stopSource ∨ n = silenceSource := by
      have := n.isLt
      simp only [stopSource, silenceSource, Fin.ext_iff]
      change n.val = 40 ∨ n.val = 41
      omega
    · exact .inl ⟨rfl, isCandidate_stop.1 h⟩
    · exact .inr (.inl ⟨rfl, isCandidate_silence.1 h⟩)

theorem account_ne_none_of_isCandidate {n : Fin 42} (h : s.isCandidate n = true) : (s.source n).account ≠ none := by
  obtain ⟨rfl, hc⟩ | ⟨rfl, hc⟩ | hc := isCandidate_imp h
  · exact hc.1
  · exact hc.1
  · exact hc.2.1

/-! ### The choice -/

/-- The first source of a level is taken, the lowest number first. -/
theorem find?_sourceNumbers_eq_some {p : Fin 42 → Bool} {n : Fin 42} (hn : p n = true) (hfirst : ∀ m, p m = true → n ≤ m) :
    sourceNumbers.find? p = some n := by
  rw [sourceNumbers, List.find?_eq_some_iff_getElem]
  refine ⟨hn, n.val, by simp, by simp, fun j hj => ?_⟩
  rw [List.getElem_finRange]
  by_contra hp
  have hle := hfirst _ (by simpa using hp)
  exact absurd hle (by simpa [Fin.le_def] using hj)

theorem levelsByUrgency_split (level : Level) :
    ∃ before after, levelsByUrgency = before ++ level :: after ∧ ∀ l ∈ before, l.rank < level.rank := by
  cases level with
  | urgent => exact ⟨[], _, rfl, by decide⟩
  | level0 => exact ⟨[.urgent], _, rfl, by decide⟩
  | level1 => exact ⟨[.urgent, .level0], _, rfl, by decide⟩
  | level2 => exact ⟨[.urgent, .level0, .level1], _, rfl, by decide⟩
  | level3 => exact ⟨[.urgent, .level0, .level1, .level2], _, rfl, by decide⟩

/-- The most urgent level for which something is found is the one that counts. -/
theorem findSome?_levelsByUrgency {α : Type} {f : Level → Option α} {level : Level} {a : α} (hlevel : f level = some a)
    (hbefore : ∀ l : Level, l.rank < level.rank → f l = none) : levelsByUrgency.findSome? f = some a := by
  obtain ⟨before, after, hsplit, hurgent⟩ := levelsByUrgency_split level
  exact List.findSome?_eq_some_iff.2 ⟨before, level, after, hsplit, hlevel, fun l hl => hbefore l (hurgent l hl)⟩

/-- A maskable source of this level is a candidate: what the choice asks of each source. -/
def candidateAt (s : State) (level : Level) (n : Fin 42) : Bool :=
  !isUrgent n && s.isCandidate n && decide ((s.source n).level = level)

theorem candidateAt_iff {level : Level} {n : Fin 42} :
    candidateAt s level n = true ↔ MaskableCandidate s n ∧ (s.source n).level = level := by
  simp only [candidateAt, Bool.and_eq_true, Bool.not_eq_true', decide_eq_true_eq, not_urgent_iff]
  constructor
  · rintro ⟨⟨hn, hcandidate⟩, hlevel⟩
    exact ⟨(isCandidate_maskable hn).1 hcandidate, hlevel⟩
  · rintro ⟨hcandidate, hlevel⟩
    exact ⟨⟨hcandidate.1, (isCandidate_maskable hcandidate.1).2 hcandidate⟩, hlevel⟩

theorem chosen?_eq : s.chosen? =
    if s.isCandidate stopSource then some stopSource
    else if s.isCandidate silenceSource then some silenceSource
    else levelsByUrgency.findSome? fun level => sourceNumbers.find? (candidateAt s level) := rfl

/-- The source of R27, R28 and R31 is the one the model finds. -/
theorem chosen?_of_isChosen {n : Fin 42} (h : IsChosen s n) : s.chosen? = some n := by
  rw [chosen?_eq]
  obtain ⟨rfl, hstop⟩ | ⟨rfl, hstop, hsilence⟩ | ⟨hstop, hsilence, hcandidate, hbest⟩ := h
  · exact if_pos (isCandidate_stop.2 hstop)
  · rw [if_neg (isCandidate_stop.not.2 hstop), if_pos (isCandidate_silence.2 hsilence)]
    rfl
  · rw [if_neg (isCandidate_stop.not.2 hstop), if_neg (isCandidate_silence.not.2 hsilence)]
    refine findSome?_levelsByUrgency (level := (s.source n).level)
      (find?_sourceNumbers_eq_some (candidateAt_iff.2 ⟨hcandidate, rfl⟩) fun m hm => ?lowest) fun l hl => ?mostUrgent
    case lowest =>
      obtain ⟨hm, hlevel⟩ := candidateAt_iff.1 hm
      obtain hlt | ⟨-, hle⟩ := hbest m hm
      · exact absurd hlt (by rw [hlevel]; exact lt_irrefl _)
      · exact hle
    case mostUrgent =>
      refine List.find?_eq_none.2 fun m _ hm => ?_
      obtain ⟨hcandidate, rfl⟩ := candidateAt_iff.1 hm
      obtain hlt | ⟨heq, -⟩ := hbest m hcandidate <;> omega

/-- With a candidate of any kind something is chosen, and only with one. -/
theorem chosen?_isSome_iff :
    s.chosen?.isSome = true ↔ StopCandidate s ∨ SilenceCandidate s ∨ ∃ n, MaskableCandidate s n := by
  constructor
  · intro h
    obtain ⟨n, hn⟩ := Option.isSome_iff_exists.1 h
    exact (isCandidate_imp (isCandidate_of_chosen hn)).imp And.right (Or.imp And.right fun h => ⟨n, h⟩)
  · intro h
    rw [chosen?_eq]
    split
    · rfl
    · split
      · rfl
      · rename_i hstop hsilence
        obtain ⟨n, hn⟩ := (h.resolve_left (isCandidate_stop.not.1 hstop)).resolve_left (isCandidate_silence.not.1 hsilence)
        rw [List.findSome?_isSome_iff]
        refine ⟨(s.source n).level, by cases (s.source n).level <;> simp [levelsByUrgency], ?_⟩
        exact List.find?_isSome.2 ⟨n, List.mem_finRange n, candidateAt_iff.2 ⟨hn, rfl⟩⟩

/-- The slot is free and the part is not held in reset. -/
theorem slotFree_iff_of_held : SlotFree s ↔ s.held = false ∧ s.slotFree = true := by
  rw [SlotFree, slotFree_iff]
  refine and_congr_right' (and_congr_right' (and_congr_left' (forall₂_congr fun e _ => ?_)))
  cases e.phase <;> simp

/-- An offer can be made: the slot is free and there is a candidate (R27). -/
theorem nextOffer?_isSome_iff :
    s.nextOffer?.isSome = true ↔
      SlotFree s ∧ (StopCandidate s ∨ SilenceCandidate s ∨ ∃ n, MaskableCandidate s n) := by
  rw [← chosen?_isSome_iff, slotFree_iff_of_held]
  constructor
  · intro h
    obtain ⟨⟨n, a⟩, hoffer⟩ := Option.isSome_iff_exists.1 h
    obtain ⟨hheld, hfree, hchosen, -⟩ := nextOffer?_eq_some.1 hoffer
    exact ⟨⟨hheld, hfree⟩, by rw [hchosen]; rfl⟩
  · rintro ⟨⟨hheld, hfree⟩, h⟩
    obtain ⟨n, hn⟩ := Option.isSome_iff_exists.1 h
    obtain ⟨a, ha⟩ := Option.ne_none_iff_exists'.1 (account_ne_none_of_isCandidate (isCandidate_of_chosen hn))
    exact Option.isSome_iff_exists.2 ⟨(n, a), nextOffer?_eq_some.2 ⟨hheld, hfree, hn, ha⟩⟩

end

end Sys2Proof.Slice0
end

section
/-! PROOFS. MAKE_OFFER (2.4, 2.5). -/

namespace Sys2Proof.Slice0

open Sys2Proof.Machine

theorem makeOffer_gives_offer {s : State} {n : Fin 42} {a : Account} (hfree : SlotFree s) (hchosen : IsChosen s n)
    (haccount : (s.source n).account = some a) : Gives .makeOffer s (s.offer n a) := by
  obtain ⟨hheld, hfree⟩ := slotFree_iff_of_held.1 hfree
  have hoffer : s.nextOffer? = some (n, a) := nextOffer?_eq_some.2 ⟨hheld, hfree, chosen?_of_isChosen hchosen, haccount⟩
  change execMakeOffer s = .next (s.offer n a)
  simp only [execMakeOffer, hoffer]

theorem makeOffer_gives_nothing {s : State} (h : s.nextOffer?.isSome ≠ true) : Gives .makeOffer s s := by
  change execMakeOffer s = .next s
  simp only [execMakeOffer, Option.not_isSome_iff_eq_none.1 h]

end Sys2Proof.Slice0

open Sys2Proof Sys2Proof.Machine Sys2Proof.Slice0

/-- Settles O25: the source the model finds is the one R27, R28 and R31 choose, and of the ten numbers after the counter one is free. -/
theorem makeOfferOffersTheChosenSource : Obligations.MakeOfferOffersTheChosenSource := by
  refine ⟨fun s n a hfree hchosen haccount => ?offer, fun s hno => makeOffer_gives_nothing (mt nextOffer?_isSome_iff.1 ?none)⟩
  case offer =>
    refine ⟨s.offer n a, makeOffer_gives_offer hfree hchosen haccount, rfl, rfl, Table.get_set_same .., fun m hm => ?_, rfl, rfl,
      rfl, rfl, rfl, rfl, rfl, rfl, fun hlength => ?_⟩
    · exact Table.get_set_other _ _ hm.symm
    · obtain ⟨k, hpos, hle, heq, hfree, hbefore⟩ := nextNotice_spec
        (held := (offerEntry s n a :: s.delivery.stack).map Entry.notice) (by simp; omega) s.delivery.noticeCounter
      exact ⟨k, hpos, hle, heq, hfree, hbefore⟩
  case none =>
    rintro ⟨⟨-, hmode, htaken, hwindow⟩, hcandidate⟩
    obtain hsuspended | hopen | ⟨e, he, hoffered⟩ | ⟨hstop, hsilence, hmaskable⟩ := hno
    · exact absurd (hmode.symm.trans hsuspended) (by decide)
    · exact absurd (hwindow.symm.trans hopen) (by decide)
    · exact absurd ((htaken e he).symm.trans hoffered) (by decide)
    · obtain h | h | ⟨n, h⟩ := hcandidate
      · exact hstop h
      · exact hsilence h
      · exact hmaskable n h
end

section
/-! SUPPORT. When each own step of the part is due, in the spec's terms. -/

namespace Sys2Proof.Slice0

open Sys2Proof.Machine

/-! ### The conditions of the steps -/

theorem Channel.isDue_iff {c : Channel} :
    c.isDue = true ↔ c.raw ≠ c.filtered ∧ ∃ elapsed ∈ c.qualifying, filterTime c.code ≤ elapsed := by
  unfold Channel.isDue
  cases c.qualifying <;> simp

theorem IntervalTimer.isDue_iff {t : IntervalTimer} : t.isDue = true ↔ t.phase = .running ∧ t.remaining = 0 := by
  simp [IntervalTimer.isDue]

section
variable {s : State}

theorem stopDue_iff :
    s.stopDue = true ↔
      s.input.stop.raw ≠ s.input.stop.filtered ∧
        ∃ elapsed ∈ s.input.stop.qualifying, filterTime s.protection.stopCode ≤ elapsed := by
  unfold State.stopDue
  cases s.input.stop.qualifying <;> simp

theorem breakDue_iff :
    s.link.breakDue = true ↔ ∃ elapsed, s.link.line = .inCharacter elapsed ∧ 2 * characterUnits s.link.rate ≤ elapsed := by
  unfold LinkUnit.breakDue
  cases s.link.line <;> simp

theorem gapDue_iff :
    s.link.gapDue = true ↔
      s.link.frame = .assembling ∧ s.link.line = .idle ∧ 20 * characterUnits s.link.rate ≤ s.link.gap := by
  simp [LinkUnit.gapDue, and_assoc]

theorem frameDue_iff :
    s.link.frameDue = true ↔
      ∃ x ∈ s.link.sending, (x.frame.payload.length + 6) * characterUnits s.link.rate ≤ x.elapsed := by
  unfold LinkUnit.frameDue
  cases s.link.sending with
  | none => simp
  | some x =>
    rw [decide_eq_true_iff]
    simp [OutFrame.duration]

variable (hheld : s.held = false)
include hheld

theorem takeExpiry?_isSome_iff :
    s.takeExpiry?.isSome = true ↔
      s.command.window = false ∧ s.delivery.takeTimer = some 0 ∧ ∃ e ∈ s.delivery.stack.head?, e.phase = .offered := by
  constructor
  · intro h
    obtain ⟨⟨e, rest⟩, hexpiry⟩ := Option.isSome_iff_exists.1 h
    obtain ⟨-, hwindow, htimer, hstack, hphase⟩ := takeExpiry?_eq_some.1 hexpiry
    exact ⟨hwindow, htimer, e, by simp [hstack], hphase⟩
  · rintro ⟨hwindow, htimer, e, he, hphase⟩
    obtain ⟨rest, hstack⟩ := List.head?_eq_some_iff.1 he
    exact Option.isSome_iff_exists.2 ⟨(e, rest), takeExpiry?_eq_some.2 ⟨hheld, hwindow, htimer, hstack, hphase⟩⟩

theorem arbitrate?_isSome_iff :
    s.arbitrate?.isSome = true ↔
      s.link.sending = none ∧
        (s.command.startNotice ≠ none ∨ s.command.replyQueue ≠ [] ∨ s.link.noticeSlot ≠ none) := by
  rw [State.arbitrate?, if_neg (by simp [hheld])]
  cases s.link.sending with
  | some x => simp
  | none =>
    cases s.command.startNotice with
    | some n => simp
    | none =>
      cases s.command.replyQueue with
      | cons f rest => simp
      | nil => cases s.link.noticeSlot <;> simp

theorem replayed?_isSome_iff :
    s.replayed?.isSome = true ↔
      s.command.window = false ∧ ∃ r ∈ s.link.intake, (∃ e ∈ s.command.replyLog, e.sequence = r.sequence) ∧
        ((∃ f ∈ s.command.replyQueue, f.sequence = r.sequence) ∨ s.command.replyQueue.length < 4) := by
  have hlogged (q : Byte) : (s.command.logged? q).isSome = true ↔ ∃ e ∈ s.command.replyLog, e.sequence = q := by
    simp [CommandUnit.logged?, List.find?_isSome]
  unfold State.replayed?
  cases hstanding : s.standing? with
  | none =>
    simp only [Option.isSome_none, Bool.false_eq_true, false_iff]
    rintro ⟨hwindow, r, hr, -⟩
    exact absurd (State.standing?_eq_some.2 ⟨hheld, hwindow, hr⟩) (by simp [hstanding])
  | some r =>
    obtain ⟨-, hwindow, hintake⟩ := State.standing?_eq_some.1 hstanding
    simp only [hwindow, hintake, true_and, Option.mem_def, Option.some.injEq, exists_eq_left', ← hlogged,
      ← CommandUnit.isWaiting_iff]
    cases s.command.logged? r.sequence with
    | none => simp
    | some e =>
      cases s.command.isWaiting r.sequence with
      | true => simp
      | false =>
        by_cases hroom : s.command.replyQueue.length < Config.replyCapacity
        · simp [hroom, show s.command.replyQueue.length < 4 from hroom]
        · simp [hroom, show ¬ s.command.replyQueue.length < 4 from hroom]

omit hheld in
theorem newRequest?_iff_stands {r : Request} : s.newRequest? = some r ↔ Stands s r.kind r.sequence r.payload := by
  rw [State.newRequest?_eq_some, Stands]
  tauto

end

/-! ### The rows of the requests -/

theorem requestCommand_of_mem_requestTable : ∀ row ∈ requestTable, requestCommand row.2.1 = row.1 := by
  simp only [requestTable, List.forall_mem_cons]
  exact ⟨rfl, rfl, rfl, rfl, rfl, rfl, rfl, rfl, rfl, rfl, rfl, rfl, rfl, rfl, rfl, rfl, rfl, rfl, rfl, rfl, rfl, rfl, rfl, rfl,
    rfl, rfl, by simp⟩

/-- Every kind byte from 1 to 26 has its row. -/
theorem exists_row_of_request_kind : ∀ k : Fin 27, k ≠ 0 → ∃ row ∈ requestTable, row.2.1.toNat = k.val := by
  decide

theorem requestCommand_of_no_request {kind : Byte} (h : kind = 0 ∨ 0x1B ≤ kind.toNat) : requestCommand kind = .badKind := by
  unfold requestCommand
  obtain rfl | h := h
  · rfl
  · split
    case h_27 => rfl
    all_goals omega

/-- The row of a kind byte: BAD_KIND's, or the one the table gives. -/
theorem requestCommand_eq_iff {kind : Byte} {c : Instr} :
    requestCommand kind = c ↔
      (c = .badKind ∧ (kind = 0 ∨ 0x1B ≤ kind.toNat)) ∨ ∃ lengths, (c, kind, lengths) ∈ requestTable := by
  constructor
  · rintro rfl
    by_cases hkind : kind = 0 ∨ 0x1B ≤ kind.toNat
    · exact .inl ⟨requestCommand_of_no_request hkind, hkind⟩
    · rw [not_or, not_le] at hkind
      obtain ⟨⟨c, k, lengths⟩, hrow, hk⟩ := exists_row_of_request_kind ⟨kind.toNat, hkind.2⟩
        fun h => hkind.1 (BitVec.eq_of_toNat_eq (by simpa [Fin.ext_iff] using h))
      obtain rfl : k = kind := BitVec.eq_of_toNat_eq hk
      obtain rfl : requestCommand k = c := requestCommand_of_mem_requestTable _ hrow
      exact .inr ⟨lengths, hrow⟩
  · rintro (⟨rfl, hkind⟩ | ⟨lengths, hrow⟩)
    · exact requestCommand_of_no_request hkind
    · exact requestCommand_of_mem_requestTable _ hrow

/-! ### The lists of steps -/

theorem mem_stepIf {condition : Bool} {i c : Instr} : c ∈ stepIf condition i ↔ condition = true ∧ c = i := by
  cases condition <;> simp [stepIf]

section
variable {s : State} {c : Instr}

theorem mem_arrivals {due : Bool} :
    c ∈ s.arrivals due ↔
      (∃ x ∈ s.event.arriving, decide (1 ≤ x.age) = due ∧ c = .occurrenceArrival x.occurrence.source.val) ∨
      (∃ x ∈ s.timer.arriving, decide (1 ≤ x.age) = due ∧ c = .triggerArrival x.channel.val) := by
  simp only [State.arrivals, List.mem_append, List.mem_map, List.mem_filter, beq_iff_eq, and_assoc, eq_comm (a := c)]

/-- A request of the row stands in the slot. -/
def RequestDue (s : State) (c : Instr) : Prop :=
  ∃ kind lengths sequence payload, (c, kind, lengths) ∈ requestTable ∧ Stands s kind sequence payload

theorem mem_commandSteps :
    c ∈ s.commandSteps ↔
      (s.replayed?.isSome = true ∧ c = .replay) ∨
      (c = .badKind ∧ ∃ kind sequence payload, Stands s kind sequence payload ∧ (kind = 0 ∨ 0x1B ≤ kind.toNat)) ∨
      RequestDue s c := by
  have hnew : (c ∈ match s.newRequest? with | some r => [requestCommand r.kind] | none => []) ↔
      ∃ r, s.newRequest? = some r ∧ requestCommand r.kind = c := by
    cases s.newRequest? <;> simp [eq_comm]
  have hstep : s.commandSteps = stepIf s.replayed?.isSome .replay ++
      (match s.newRequest? with | some r => [requestCommand r.kind] | none => []) := rfl
  rw [hstep, List.mem_append, mem_stepIf, hnew]
  refine or_congr_right ?_
  simp only [requestCommand_eq_iff, newRequest?_iff_stands]
  constructor
  · rintro ⟨r, hr, ⟨rfl, hkind⟩ | ⟨lengths, hrow⟩⟩
    · exact .inl ⟨rfl, r.kind, r.sequence, r.payload, hr, hkind⟩
    · exact .inr ⟨r.kind, lengths, r.sequence, r.payload, hrow, hr⟩
  · rintro (⟨rfl, kind, sequence, payload, hs, hkind⟩ | ⟨kind, lengths, sequence, payload, hrow, hs⟩)
    · exact ⟨⟨kind, sequence, payload⟩, hs, .inl ⟨rfl, hkind⟩⟩
    · exact ⟨⟨kind, sequence, payload⟩, hs, .inr ⟨lengths, hrow⟩⟩

/-- The due steps, list by list. -/
theorem mem_dueSteps (hheld : s.held = false) :
    c ∈ s.dueSteps ↔
      (∃ n : Fin 32, (s.channel n).isDue = true ∧ c = .qualificationEnd n.val) ∨
      (s.stopDue = true ∧ c = .stopQualificationEnd) ∨
      (∃ n : Fin 4, (s.intervalTimer n).isDue = true ∧ c = .timerExpiry n.val) ∨
      (s.protection.silenceTimer = some 0 ∧ c = .silenceExpiry) ∨
      (s.takeExpiry?.isSome = true ∧ c = .takeTimerExpiry) ∨
      (s.link.breakDue = true ∧ c = .breakLimit) ∨
      (s.link.gapDue = true ∧ c = .gapLimit) ∨
      (s.link.frameDue = true ∧ c = .frameEnd) ∨
      (s.nextOffer?.isSome = true ∧ c = .makeOffer) ∨
      (s.arbitrate?.isSome = true ∧ c = .arbiterChoice) ∨
      c ∈ s.commandSteps ∨ c ∈ s.arrivals true := by
  simp only [State.dueSteps, hheld, Bool.false_eq_true, if_false, List.mem_append, mem_stepIf, List.mem_map, List.mem_filter,
    List.mem_finRange, true_and, decide_eq_true_eq, eq_comm (b := c), or_assoc]

/-- The commands of the outside and of the requests are none of the part's steps by a clock or an arrival. -/
theorem mem_dueSteps_iff_due (hheld : s.held = false) : c ∈ s.dueSteps ↔ Due s c := by
  rw [mem_dueSteps hheld, mem_commandSteps, mem_arrivals]
  cases c with
  | qualificationEnd k =>
    simp [Due, RequestDue, requestTable, Channel.isDue_iff, eq_comm (a := k), and_comm, and_left_comm]
  | stopQualificationEnd => simp [Due, RequestDue, requestTable, stopDue_iff]
  | timerExpiry k => simp [Due, RequestDue, requestTable, IntervalTimer.isDue_iff, eq_comm (a := k), and_comm]
  | silenceExpiry => simp [Due, RequestDue, requestTable]
  | takeTimerExpiry => simp [Due, RequestDue, requestTable, takeExpiry?_isSome_iff hheld]
  | breakLimit => simp [Due, RequestDue, requestTable, breakDue_iff]
  | gapLimit => simp [Due, RequestDue, requestTable, gapDue_iff]
  | frameEnd => simp [Due, RequestDue, requestTable, frameDue_iff]
  | makeOffer => simp [Due, RequestDue, requestTable, nextOffer?_isSome_iff]
  | arbiterChoice => simp [Due, RequestDue, requestTable, arbitrate?_isSome_iff hheld]
  | replay => simp [Due, RequestDue, requestTable, replayed?_isSome_iff hheld]
  | badKind => simp [Due, RequestDue, requestTable]
  | occurrenceArrival k => simp [Due, RequestDue, requestTable, eq_comm (a := k)]
  | triggerArrival k => simp [Due, RequestDue, requestTable, eq_comm (a := k)]
  | powerOn | resetRelease | inputPinChange | stopPinChange | characterReceived | startBit | breakEnd =>
    simp [Due, RequestDue, requestTable]
  | _ => simp only [reduceCtorEq, and_false, exists_false, false_or, or_false, false_and, Due, RequestDue]

theorem arrives_of_mem_arrivals {due : Bool} (h : c ∈ s.arrivals due) : Arrives s c :=
  (mem_arrivals.1 h).imp (fun ⟨x, hx, _, hc⟩ => ⟨x, hx, hc⟩) fun ⟨x, hx, _, hc⟩ => ⟨x, hx, hc⟩

end

end Sys2Proof.Slice0

open Sys2Proof Sys2Proof.Machine Sys2Proof.Slice0

/-- Settles O3: each list of the due steps holds a step exactly when the spec makes it due, and the block's own step is taken from them
and from the arrivals. -/
theorem dueStepsAreTakenBeforeTimePasses : Obligations.DueStepsAreTakenBeforeTimePasses := by
  constructor
  · intro s c
    cases hheld : s.held with
    | true => simp [State.dueSteps, hheld]
    | false => rw [mem_dueSteps_iff_due hheld, eq_self_iff_true, true_and]
  · intro s hpending hdue
    obtain ⟨u, hu, ⟨hnone, -⟩ | ⟨c, hc, hidle⟩⟩ := s.idle_cases
    · exact absurd hnone hdue
    · have hstep : step s = exec c u := by rw [step, hpending]; exact hidle
      have hc : c ∈ s.dueSteps ∨ Arrives s c := by
        refine (List.mem_append.1 hc).imp_right fun hc => ?_
        split at hc
        · cases hc
        · exact arrives_of_mem_arrivals hc
      obtain hu | hu := hu <;> rw [hu] at hstep
      · exact ⟨c, s.choices, hc, .inl rfl, hstep⟩
      · exact ⟨c, s.choices + 1, hc, .inr rfl, hstep⟩
end

section
/-! PROOFS. What the block does on an empty queue with no step due (log 1, log 12): time passes, or something arrives. -/

namespace Sys2Proof.Slice0

open Sys2Proof.Machine

section
variable {s : State}

/-! ### One microsecond -/

theorem IntervalTimer.later_eq (t : IntervalTimer) :
    t.later = if t.phase = .running then { t with remaining := t.remaining - 1 } else t := by
  unfold IntervalTimer.later
  cases t.phase <;> rfl

theorem LinkUnit.later_eq (l : LinkUnit) :
    l.later =
      { l with
        sending := l.sending.map fun x => { x with elapsed := x.elapsed + 288 }
        line := (match l.line with
          | .inCharacter elapsed => .inCharacter (elapsed + 288)
          | .idle => .idle
          | .waitingHigh => .waitingHigh)
        gap := if l.frame = .assembling ∧ l.line = .idle then l.gap + 288 else l.gap } := by
  unfold LinkUnit.later
  cases l.line <;> rfl

theorem tick_of_not_held (hheld : s.held = false) :
    s.tick =
      { s with
        input :=
          { channels := s.input.channels.map fun c => { c with qualifying := laterQualification c.qualifying }
            stop := { s.input.stop with qualifying := laterQualification s.input.stop.qualifying } }
        timer :=
          { timeBase := s.timer.timeBase + 1
            timers := s.timer.timers.map IntervalTimer.later
            arriving := s.timer.arriving.map fun x => { x with age := x.age + 1 } }
        event := { s.event with arriving := s.event.arriving.map fun x => { x with age := x.age + 1 } }
        delivery := { s.delivery with
          takeTimer := if s.command.window then s.delivery.takeTimer else s.delivery.takeTimer.map (· - 1) }
        protection := { s.protection with silenceTimer := s.protection.silenceTimer.map (· - 1) }
        link := s.link.later } :=
  if_neg (by simp [hheld])

theorem microsecondLater_tick (hheld : s.held = false) : MicrosecondLater s s.tick := by
  rw [tick_of_not_held hheld]
  refine ⟨rfl, fun n => ?_, rfl, fun n => ?_, rfl, rfl, rfl, rfl, ?_, rfl, rfl, rfl, rfl, rfl, rfl⟩
  · exact (Table.get_map ..).trans (IntervalTimer.later_eq _)
  · exact Table.get_map ..
  · refine (LinkUnit.later_eq _).trans ?_
    cases s.link.line <;> rfl

/-! ### The block's own step with nothing due -/

theorem idle_of_nothing_possible (hdue : s.dueSteps = []) (harrivals : (if s.held then [] else s.arrivals false) = []) :
    s.idle = .next s.tick := by
  unfold State.idle
  dsimp only
  rw [hdue, harrivals]
  rfl

/-- Something is on its way: the free choice is between its arrival and the passing of a microsecond. -/
theorem idle_of_arrivals (hheld : s.held = false) (hdue : s.dueSteps = []) (harrivals : s.arrivals false ≠ []) :
    s.idle = .next { s with choices := s.choices + 1 }.tick ∨
      ∃ c ∈ s.arrivals false, s.idle = exec c { s with choices := s.choices + 1 } := by
  obtain ⟨c, rest, hlist⟩ := List.exists_cons_of_ne_nil harrivals
  unfold State.idle
  dsimp only
  rw [hdue, if_neg (by simp [hheld]), hlist, List.nil_append]
  split
  next => contradiction
  next => contradiction
  split
  · rename_i i hi
    exact .inr ⟨i, List.mem_of_getElem? hi, rfl⟩
  · exact .inl rfl

/-- With nothing due, whatever is on its way has been so for less than a microsecond. -/
theorem arrivals_false_eq_nil_iff (hheld : s.held = false) (hdue : s.dueSteps = []) :
    s.arrivals false = [] ↔ s.event.arriving = [] ∧ s.timer.arriving = [] := by
  obtain ⟨hoccurrences, htriggers⟩ := ages_eq_zero_of_dueSteps_eq_nil hheld hdue
  have hevent : (s.event.arriving.filter fun x => decide (1 ≤ x.age) == false) = s.event.arriving :=
    List.filter_eq_self.2 fun x hx => by simp [hoccurrences x hx]
  have htimer : (s.timer.arriving.filter fun x => decide (1 ≤ x.age) == false) = s.timer.arriving :=
    List.filter_eq_self.2 fun x hx => by simp [htriggers x hx]
  rw [State.arrivals, hevent, htimer, List.append_eq_nil_iff, List.map_eq_nil_iff, List.map_eq_nil_iff]

end

end Sys2Proof.Slice0

open Sys2Proof Sys2Proof.Machine Sys2Proof.Slice0

/-- Settles O2: one microsecond, unit by unit; and with nothing due only arrivals compete with it. -/
theorem timePassesWhileNothingIsDue : Obligations.TimePassesWhileNothingIsDue := by
  have hstep (s : State) (hpending : s.pending = []) : step s = s.idle := by rw [step, hpending]
  refine ⟨fun s hheld => microsecondLater_tick hheld, fun s hpending hheld hdue hevent htimer => ?quiet,
    fun s hpending hheld hdue harriving => ?arriving, fun s hpending hheld => ?held⟩
  case quiet =>
    have harrivals := (arrivals_false_eq_nil_iff hheld hdue).2 ⟨hevent, htimer⟩
    rw [hstep s hpending, idle_of_nothing_possible hdue (by simp [harrivals])]
  case arriving =>
    have harrivals : s.arrivals false ≠ [] := fun hnone => by
      obtain ⟨hevent, htimer⟩ := (arrivals_false_eq_nil_iff hheld hdue).1 hnone
      exact harriving.elim (· hevent) (· htimer)
    rw [hstep s hpending]
    exact (idle_of_arrivals hheld hdue harrivals).imp_right fun ⟨c, hc, hidle⟩ => ⟨c, arrives_of_mem_arrivals hc, hidle⟩
  case held =>
    rw [hstep s hpending, idle_of_nothing_possible (by simp [State.dueSteps, hheld]) (if_pos hheld), tick_of_held hheld]
end

section
/-! PROOFS. The values after reset, and the two steps of a power-on (9.5). -/

namespace Sys2Proof.Slice0

open Sys2Proof.Machine Sys2Proof.Safety

/-! ### The values after reset -/

theorem source_reset (n : Fin 42) :
    State.reset.source n =
      { mask := if n.val < 40 then .masked else .unmasked, level := if n.val < 40 then .level3 else .urgent,
        mode := .report, ring := 0, budget := 0, account := none } := by
  have h : State.reset.source n = SourceRecord.reset n := Table.get_ofFn ..
  rw [h, SourceRecord.reset]
  split <;> rfl

theorem channel_reset (n : Fin 32) : State.reset.channel n = Channel.reset false := Table.get_ofFn ..

theorem intervalTimer_reset (n : Fin 4) : State.reset.intervalTimer n = IntervalTimer.reset := Table.get_ofFn ..

theorem ring_reset (r : Fin 4) : State.reset.ring r = Ring.reset := Table.get_ofFn ..

theorem inputsSound_reset : InputsSound State.reset := by
  refine inputsSound_iff.2 ⟨fun n => ?_, qualificationSound_of_settled rfl _, fun _ => ⟨fun n => ?_, rfl⟩⟩
  · rw [channel_reset]
    exact Channel.sound_reset false
  · rw [channel_reset]
    rfl

theorem receiverSound_reset : ReceiverSound State.reset := ⟨fun _ => rfl, nofun, nofun⟩

theorem repliesSound_reset : RepliesSound State.reset := ⟨Nat.zero_le _, Nat.zero_le _, List.nodup_nil⟩

theorem heldSound_reset : HeldSound State.reset :=
  fun _ => ⟨rfl, rfl, rfl, rfl, rfl, rfl, rfl, rfl, fun n => by rw [channel_reset]; exact ⟨rfl, rfl⟩⟩

/-! ### The STOP check of the release -/

section
variable {s : State}

/-- With STOP active the check claims the hold, and its occurrence latches at source 40 in the same step (R59, R57, log 6). -/
theorem stopCheck_of_active (h : s.stopCondition = true) :
    s.stopCheck =
      { s with
        protection := { s.protection with stopActive := true }
        output := { s.output with causes := { s.output.causes with stop := true }, mode := .safeHeld } }.setSource stopSource
        { s.source stopSource with account := some (latchAccount s.timer.timeBase (s.source stopSource).account) } := by
  rw [State.stopCheck]
  dsimp only
  rw [if_pos h, h]
  rfl

theorem stopCheck_of_inactive (h : s.stopCondition = false) :
    s.stopCheck = { s with protection := { s.protection with stopActive := false } } := by
  rw [State.stopCheck]
  dsimp only
  rw [if_neg (by simp [h]), h]

/-- The state in which the release makes the STOP check: the rate read, the pins sampled (R163). -/
def released (s : State) (rate : BitVec 2) (pins : BitVec 32) (stopPin rxd : Bool) : State :=
  { s with
    held := false
    input := s.input.sample pins stopPin
    link := { s.link with rate := rate, line := if rxd then .idle else .waitingHigh } }

theorem resetRelease_gives (hheld : s.held = true) (rate : BitVec 2) (pins : BitVec 32) (stopPin rxd : Bool) :
    Gives (.resetRelease rate pins stopPin rxd) s ((released s rate pins stopPin rxd).stopCheck.raiseStart .power) :=
  if_pos hheld

theorem channel_released (rate : BitVec 2) (pins : BitVec 32) (stopPin rxd : Bool) (n : Fin 32) :
    (released s rate pins stopPin rxd).channel n =
      { s.channel n with raw := pins.getLsbD n.val, filtered := pins.getLsbD n.val, qualifying := none } :=
  Table.get_ofFn ..

theorem stopCondition_released_iff (rate : BitVec 2) (pins : BitVec 32) (stopPin rxd : Bool) :
    (released s rate pins stopPin rxd).stopCondition = true ↔
      s.protection.stopEnable = true ∧ stopPin = s.protection.stopActiveLevel := by
  rw [State.stopCondition, Bool.and_eq_true, beq_iff_eq]
  rfl

end

end Sys2Proof.Slice0

open Sys2Proof Sys2Proof.Machine Sys2Proof.Safety Sys2Proof.Slice0

/-- Settles O4: the tables row by row, and the base case of each invariant. -/
theorem resetHoldsThePowerOnValuesAndTheInvariants : Obligations.ResetHoldsThePowerOnValuesAndTheInvariants := by
  obtain ⟨hstack, hoffer, hnotices, hslot⟩ := (deliverySound_iff (s := State.reset)).2 deliverySound_reset
  refine ⟨source_reset, rfl, ⟨rfl, rfl, rfl, rfl, rfl⟩, ring_reset, fun n => ?_, rfl, intervalTimer_reset, ⟨rfl, rfl, rfl, rfl⟩,
    ⟨rfl, rfl, rfl, rfl, rfl, rfl⟩, rfl, ⟨fun _ => by decide, fun _ => rfl⟩, ⟨fun _ => rfl, nofun, nofun⟩, inputsSound_reset,
    sourcesSound_of_event_reset rfl, hstack, hoffer, hnotices, hslot, ringsSound_of_capture_reset rfl,
    timersSound_of_timers_reset rfl, receiverSound_reset, repliesSound_reset, ?_, ⟨nofun, nofun⟩, heldSound_reset⟩
  · rw [channel_reset]
    exact ⟨rfl, rfl, rfl⟩
  · exact (windowSound_of_closed rfl).2 ⟨rfl, rfl, rfl⟩

/-- Settles O16: the pins' levels apart, POWER_ON is the state of reset. -/
theorem powerOnTakesThePowerOnValues : Obligations.PowerOnTakesThePowerOnValues := fun s =>
  ⟨_, rfl, rfl, rfl, rfl, rfl, rfl, rfl, rfl, rfl, rfl,
    fun n => State.channel_of_map (s := s) (f := fun c => Channel.reset c.raw) rfl n, rfl, rfl, rfl⟩

/-- Settles O17: the STOP check has two outcomes, and the START notice takes its content after it. -/
theorem resetReleaseSamplesAndChecksStop : Obligations.ResetReleaseSamplesAndChecksStop := by
  intro s rate pins stopPin rxd hheld
  have hgives := resetRelease_gives hheld rate pins stopPin rxd
  have hcondition := stopCondition_released_iff (s := s) rate pins stopPin rxd
  have hchannel := channel_released (s := s) rate pins stopPin rxd
  cases hactive : (released s rate pins stopPin rxd).stopCondition with
  | true =>
    rw [stopCheck_of_active hactive] at hgives
    refine ⟨_, hgives, rfl, hchannel, rfl, rfl, fun _ => ⟨rfl, rfl, Table.get_set_same ..⟩,
      fun h => absurd (hcondition.1 hactive) h, fun n hn => Table.get_set_other _ _ hn.symm, rfl, rfl, rfl, rfl, rfl, rfl, rfl⟩
  | false =>
    rw [stopCheck_of_inactive hactive] at hgives
    refine ⟨_, hgives, rfl, hchannel, rfl, rfl, fun h => absurd (hcondition.2 h) (by simp [hactive]),
      fun _ => ⟨rfl, rfl, rfl⟩, fun n _ => rfl, rfl, rfl, rfl, rfl, rfl, rfl, rfl⟩
end

section
/-! PROOFS. The pins (3.2, 5.3): their changes, the end of a qualification, and SET STOP. -/

namespace Sys2Proof.Slice0

open Sys2Proof.Machine

section
variable {s : State}

/-! ### The report of an accepted change, and the evaluation of STOP, in the spec's terms -/

theorem report_eq_reportIfMatching (n : Fin 32) : s.report n = reportIfMatching s n := by
  unfold State.report reportIfMatching
  dsimp only
  by_cases hmatch : (s.channel n).edge.matchesEdge (s.channel n).filtered = true
  · rw [if_pos hmatch, if_pos ((EdgeSelect.matchesEdge_iff _ _).1 hmatch)]
    rfl
  · rw [if_neg hmatch, if_neg ((EdgeSelect.matchesEdge_iff _ _).not.1 hmatch)]

theorem evaluateStop_eq_stopEvaluated : s.evaluateStop = stopEvaluated s s.stopCondition := by
  unfold stopEvaluated
  obtain ⟨hcondition, hactive, h⟩ | ⟨hkept, h⟩ := s.evaluateStop_cases
  · rw [h, if_pos ⟨hcondition, hactive⟩]
  · rw [h, if_neg]
    rintro ⟨hcondition, hactive⟩
    obtain hkept | hkept := hkept
    · exact absurd (hcondition.symm.trans hkept) (by decide)
    · exact absurd (hactive.symm.trans hkept) (by decide)

theorem acceptChange_eq (n : Fin 32) :
    s.acceptChange n =
      reportIfMatching (s.setChannel n { s.channel n with filtered := (s.channel n).raw, qualifying := none }) n :=
  report_eq_reportIfMatching n

theorem acceptChange_setChannel (n : Fin 32) (c : Channel) :
    (s.setChannel n c).acceptChange n = reportIfMatching (s.setChannel n { c with filtered := c.raw, qualifying := none }) n := by
  have hchannel : (s.setChannel n c).channel n = c := Table.get_set_same ..
  have htwice (d : Channel) : (s.setChannel n c).setChannel n d = s.setChannel n d := by
    simp only [State.setChannel, Table.set_set]
  rw [acceptChange_eq, hchannel, htwice]

theorem acceptStop_eq :
    s.acceptStop =
      stopEvaluated (s.setStopPin { raw := s.input.stop.raw, filtered := s.input.stop.raw, qualifying := none })
        (s.protection.stopEnable && (s.input.stop.raw == s.protection.stopActiveLevel)) :=
  evaluateStop_eq_stopEvaluated

/-! ### The commands, branch by branch -/

theorem exec_inputPinChange (n : Fin 32) (level : Bool) :
    exec (.inputPinChange n.val level) s =
      if (s.channel n).raw = level then .next s
      else if s.held then .next (s.setChannel n { s.channel n with raw := level, filtered := level })
      else if level = (s.channel n).filtered then
        .next (s.setChannel n { s.channel n with raw := level, qualifying := none })
      else if (s.channel n).code = 0 then .next ((s.setChannel n { s.channel n with raw := level }).acceptChange n)
      else .next (s.setChannel n { s.channel n with raw := level, qualifying := some ((s.channel n).qualifying.getD 0) }) := by
  change execInputPinChange n.val level s = _
  simp only [execInputPinChange, number?_eq_some.2 (rfl : n.val = n.val)]

theorem exec_qualificationEnd (n : Fin 32) :
    exec (.qualificationEnd n.val) s =
      if !s.held && (s.channel n).isDue then .next (s.acceptChange n) else .next s := by
  change execQualificationEnd n.val s = _
  simp only [execQualificationEnd, number?_eq_some.2 (rfl : n.val = n.val)]

theorem exec_stopPinChange (level : Bool) :
    exec (.stopPinChange level) s =
      if s.input.stop.raw = level then .next s
      else if s.held then .next (s.setStopPin { s.input.stop with raw := level, filtered := level })
      else if level = s.input.stop.filtered then .next (s.setStopPin { s.input.stop with raw := level, qualifying := none })
      else if s.protection.stopCode = 0 then .next (s.setStopPin { s.input.stop with raw := level }).acceptStop
      else
        .next (s.setStopPin { s.input.stop with raw := level, qualifying := some (s.input.stop.qualifying.getD 0) }) := rfl

theorem exec_stopQualificationEnd :
    exec .stopQualificationEnd s = if !s.held && s.stopDue then .next s.acceptStop else .next s := rfl

end

/-! ### SET STOP -/

section
variable (s : State) (kind : Byte) {sequence guard enable level code : Byte} (hguard : guard = 255 - sequence)
include hguard

theorem setStopBody_of_bad_enable (henable : 1 < enable.toNat) :
    setStopBody ⟨kind, sequence, [guard, enable, level, code]⟩ s = .refused badFieldCode 1 := by
  refine (guarded_right (r := ⟨kind, sequence, [guard, enable, level, code]⟩) hguard _).trans ?_
  rw [boolOfCode?_eq_none.2 henable]
  rfl

variable (henable : enable.toNat ≤ 1)
include henable

theorem setStopBody_of_bad_level (hlevel : 1 < level.toNat) :
    setStopBody ⟨kind, sequence, [guard, enable, level, code]⟩ s = .refused badFieldCode 2 := by
  refine (guarded_right (r := ⟨kind, sequence, [guard, enable, level, code]⟩) hguard _).trans ?_
  rw [boolOfCode?_of_toNat_le_one henable, boolOfCode?_eq_none.2 hlevel]
  rfl

variable (hlevel : level.toNat ≤ 1)
include hlevel

theorem setStopBody_of_bad_code (hcode : 7 < code.toNat) :
    setStopBody ⟨kind, sequence, [guard, enable, level, code]⟩ s = .refused badFieldCode 3 := by
  refine (guarded_right (r := ⟨kind, sequence, [guard, enable, level, code]⟩) hguard _).trans ?_
  rw [boolOfCode?_of_toNat_le_one henable, boolOfCode?_of_toNat_le_one hlevel, number?_eq_none.2 hcode]
  rfl

theorem setStopBody_of_fields_in_range {k : Fin 8} (hcode : k.val = code.toNat) :
    setStopBody ⟨kind, sequence, [guard, enable, level, code]⟩ s =
      .executed (s.stopWritten (enable == 1) (level == 1) k).evaluateStop
        [enable, level, code, boolCode (s.stopWritten (enable == 1) (level == 1) k).evaluateStop.input.stop.filtered,
          boolCode (s.stopWritten (enable == 1) (level == 1) k).evaluateStop.protection.stopActive] := by
  refine (guarded_right (r := ⟨kind, sequence, [guard, enable, level, code]⟩) hguard _).trans ?_
  rw [boolOfCode?_of_toNat_le_one henable, boolOfCode?_of_toNat_le_one hlevel, number?_eq_some.2 hcode]
  simp only [field_some, boolCode_beq_one_of_toNat_le_one henable, boolCode_beq_one_of_toNat_le_one hlevel, hcode,
    byteOf_toNat]
  rfl

end

section
variable (s : State) (active : Bool)

theorem stopEvaluated_input : (stopEvaluated s active).input = s.input := by
  unfold stopEvaluated
  split <;> rfl

theorem stopEvaluated_stopActive : (stopEvaluated s active).protection.stopActive = active := by
  unfold stopEvaluated
  split
  · rename_i h
    exact h.1.symm
  · rfl

/-- The STOP active byte, in the terms of R56. -/
theorem boolCode_condition (enable : Byte) (filtered level : Bool) :
    boolCode (enable == 1 && (filtered == level)) = if enable = 1 ∧ filtered = level then 1 else 0 := by
  simp [boolCode]

theorem stopEvaluated_emptyIntake : (stopEvaluated s active).emptyIntake = stopEvaluated s.emptyIntake active := by
  by_cases h : active = true ∧ s.protection.stopActive = false
  · have h' : active = true ∧ s.emptyIntake.protection.stopActive = false := h
    rw [stopEvaluated, if_pos h, stopEvaluated, if_pos h']
    rfl
  · have h' : ¬ (active = true ∧ s.emptyIntake.protection.stopActive = false) := h
    rw [stopEvaluated, if_neg h, stopEvaluated, if_neg h']
    rfl

end

end Sys2Proof.Slice0

open Sys2Proof Sys2Proof.Machine Sys2Proof.Slice0

/-- Settles O18: the branches of the command, in their order. -/
theorem pinChangeStartsCancelsOrAccepts : Obligations.PinChangeStartsCancelsOrAccepts := by
  intro s n level
  refine ⟨fun hheld hraw hback => ?_, fun hheld hraw hdiffers hcode hnone => ?_, fun hheld hraw hdiffers hcode => ?_,
    fun hheld hraw => ?_, fun hraw => ?_⟩ <;> rw [Gives, exec_inputPinChange]
  · rw [if_neg hraw, if_neg (by simp [hheld]), if_pos hback]
  · rw [if_neg hraw, if_neg (by simp [hheld]), if_neg hdiffers, if_neg hcode, hnone]
    rfl
  · rw [if_neg hraw, if_neg (by simp [hheld]), if_neg hdiffers, if_pos hcode, acceptChange_setChannel]
  · rw [if_neg hraw, if_pos hheld]
  · rw [if_pos hraw]

/-- Settles O19: the qualification is due exactly from its filter time on. -/
theorem qualificationEndAcceptsTheChange : Obligations.QualificationEndAcceptsTheChange := by
  intro s n elapsed hheld hqualifying hdiffers
  have hdue : (s.channel n).isDue = true ↔ filterTime (s.channel n).code ≤ elapsed := by
    rw [Channel.isDue_iff, hqualifying]
    simp [hdiffers]
  refine ⟨fun hpassed => ?_, fun hbefore => ?_⟩ <;> rw [Gives, exec_qualificationEnd]
  · rw [if_pos (by simp [hheld, hdue, hpassed]), acceptChange_eq]
  · rw [if_neg (by simp [hdue, hbefore])]

/-- Settles O20: the STOP pin's two commands, branch by branch; an accepted change is evaluated with the new level. -/
theorem stopPinIsQualifiedAndEvaluated : Obligations.StopPinIsQualifiedAndEvaluated := by
  intro s level
  refine ⟨fun hheld hraw hback => ?_, fun hheld hraw hdiffers hcode hnone => ?_, fun hheld hraw hdiffers hcode => ?_,
    fun elapsed hheld hqualifying hdiffers hpassed => ?_, fun elapsed hqualifying hbefore => ?_, fun hheld hraw => ?_,
    fun hraw => ?_⟩ <;> rw [Gives]
  · rw [exec_stopPinChange, if_neg hraw, if_neg (by simp [hheld]), if_pos hback]
  · rw [exec_stopPinChange, if_neg hraw, if_neg (by simp [hheld]), if_neg hdiffers, if_neg hcode, hnone]
    rfl
  · rw [exec_stopPinChange, if_neg hraw, if_neg (by simp [hheld]), if_neg hdiffers, if_pos hcode, acceptStop_eq]
    rfl
  · have hdue : s.stopDue = true := stopDue_iff.2 ⟨hdiffers, elapsed, hqualifying, hpassed⟩
    rw [exec_stopQualificationEnd, if_pos (by simp [hheld, hdue]), acceptStop_eq]
  · have hdue : s.stopDue ≠ true := by
      rw [Ne, stopDue_iff, hqualifying]
      simp [hbefore]
    rw [exec_stopQualificationEnd, if_neg (by simp [hdue])]
  · rw [exec_stopPinChange, if_neg hraw, if_pos hheld]
  · rw [exec_stopPinChange, if_pos hraw]

/-- Settles O58: one equation of the body for each check; past them the pin is recoded by R55 and the condition evaluated. -/
theorem setStopWritesAndEvaluates : Obligations.SetStopWritesAndEvaluates := by
  intro s sequence guard enable level code hs hguard
  rw [← complement_iff] at hguard
  refine ⟨fun hbad => ?_, fun henable hbad => ?_, fun henable hlevel hbad => ?_, fun k henable hlevel hk => ?_⟩
  · exact refuses_of_body_refused rfl hs (setStopBody_of_bad_enable _ _ hguard hbad)
  · exact refuses_of_body_refused rfl hs (setStopBody_of_bad_level _ _ hguard henable hbad)
  · exact refuses_of_body_refused rfl hs (setStopBody_of_bad_code _ _ hguard henable hlevel hbad)
  refine ⟨s.input.stop.recode s.protection.stopCode k, ?raw, fun hkept => ?kept, fun hqualifying hcode hk0 => ?restarted,
    fun hqualifying hcode hk0 => ?accepted, replies_of_body_executed rfl hs ?body⟩
  case raw =>
    unfold StopPin.recode
    split
    · split <;> rfl
    · rfl
  case kept =>
    refine if_neg ?_
    rintro ⟨hsome, hcode⟩
    exact hkept.elim (fun hnone => by simp [hnone] at hsome) hcode
  case restarted => exact (if_pos ⟨Option.isSome_iff_ne_none.2 hqualifying, hcode⟩).trans (if_neg hk0)
  case accepted => exact (if_pos ⟨Option.isSome_iff_ne_none.2 hqualifying, hcode⟩).trans (if_pos hk0)
  case body =>
    rw [setStopBody_of_fields_in_range _ _ hguard henable hlevel hk, evaluateStop_eq_stopEvaluated, stopEvaluated_input,
      stopEvaluated_stopActive, stopEvaluated_emptyIntake]
    change Verdict.executed _ [enable, level, code, boolCode (s.input.stop.recode s.protection.stopCode k).filtered,
      boolCode (enable == 1 && ((s.input.stop.recode s.protection.stopCode k).filtered == (level == 1)))] = _
    rw [boolCode_condition]
    rfl
end

section
/-! PROOFS. SET INPUT (5.6): an edge select above 3 is not refused. In the body of `EdgeSelect.ofCode?` the last row's `none` is the edge
select of that name, not the absent value, so that every byte above 3 is taken as the edge select 0. -/

namespace Sys2Proof.Slice0

open Sys2Proof.Machine

theorem edgeSelect_ofCode?_of_above_3 {b : Byte} (h : 3 < b.toNat) : EdgeSelect.ofCode? b = some .none := by
  unfold EdgeSelect.ofCode?
  split
  case h_5 => rfl
  all_goals omega

/-- The SET INPUT of channel 0 with an edge select above 3 and filter code 0 executes, as with the edge select 0. -/
theorem setInputBody_of_edge_above_3 (s : State) (kind sequence : Byte) {edge : Byte} (hedge : 3 < edge.toNat) :
    setInputBody ⟨kind, sequence, [edge, 0, 0]⟩ s =
      .executed (s.configureChannels .none 0 (listedNumbers 32 [0]))
        [0, 0, byteOf (listedNumbers 32 [0]).length] := by
  simp only [setInputBody, edgeSelect_ofCode?_of_above_3 hedge]
  rfl

/-- A request that is answered with a REPLY is not refused: the two answers differ. -/
theorem not_refuses_of_next_reply {c : Instr} {s t : State} {kind sequence code detail kind' sequence' : Byte} {data : List Byte}
    (h : exec c s = .next (t.answerNew sequence' (.reply kind' data)))
    (hqueue : t.command.replyQueue = s.command.replyQueue) : ¬ Refuses c s kind sequence code detail := by
  intro hrefuses
  have heq := congrArg (fun u : State => u.command.replyQueue) (Host.Outcome.next.inj (h.symm.trans hrefuses))
  rw [answered_eq] at heq
  change t.command.replyQueue ++ _ = s.command.replyQueue ++ _ at heq
  rw [hqueue] at heq
  simp at heq

/-- The part with a SET INPUT of channel 0 in its intake slot: edge select 4, filter code 0. -/
def edgeFourWaits : State :=
  { State.reset with
    held := false
    link := { LinkUnit.reset with intake := some { kind := 0x0B, sequence := 1, payload := [4, 0, 0] } } }

theorem edgeFourWaits_stands : Stands edgeFourWaits 0x0B 1 [4, 0, 0] := ⟨rfl, rfl, rfl, by decide, nofun⟩

end Sys2Proof.Slice0

open Sys2Proof Sys2Proof.Machine Sys2Proof.Slice0

/-- Refutes O48: a SET INPUT with the edge select 4 is executed, not refused with BAD_FIELD. -/
theorem not_setInputConfiguresTheListedChannels : ¬ Obligations.SetInputConfiguresTheListedChannels := by
  intro h
  have hrefuses := ((h edgeFourWaits 1 4 0 [0] edgeFourWaits_stands).2 (by simp) (by simp)).1 (by decide)
  have hexecutes : exec .setInput edgeFourWaits =
      .next ((edgeFourWaits.emptyIntake.configureChannels .none 0 (listedNumbers 32 [0])).answerNew 1
        (.reply 0x0B [0, 0, byteOf (listedNumbers 32 [0]).length])) :=
    serve_executed (newRequest?_of_stands edgeFourWaits_stands) rfl (setInputBody_of_edge_above_3 _ _ _ (by decide))
  refine not_refuses_of_next_reply (c := .setInput) hexecutes ?_ hrefuses
  exact (State.configureChannels_sameBut _ _ _ _).replyQueue (by decide)
end

section
/-! PROOFS. The arrivals of occurrences and triggers (1.3 to 1.5, 4.3 to 4.5, 6.5), and the expiries (3.6, 6.4). -/

namespace Sys2Proof.Slice0

open Sys2Proof.Machine

/-! ### The oldest of its kind on its way -/

section
variable {α : Type} {p : α → Bool} {list before after : List α} {x : α} (hsplit : list = before ++ x :: after)
  (hbefore : ∀ y ∈ before, p y = false) (hx : p x = true)
include hsplit hbefore hx

theorem find?_oldest : list.find? p = some x :=
  List.find?_eq_some_iff_append.2 ⟨hx, before, after, hsplit, fun y hy => by simp [hbefore y hy]⟩

theorem eraseP_oldest : list.eraseP p = before ++ after := by
  rw [hsplit, List.eraseP_append_right _ (fun y hy => by simp [hbefore y hy]), List.eraseP_cons_of_pos hx]

end

/-! ### The arrival of an occurrence -/

/-- The state in which an occurrence arrives: the others are still on their way. -/
abbrev stillArriving (s : State) (others : List OccurrenceInTransit) : State :=
  { s with event := { s.event with arriving := others } }

section
variable {s : State} {before after : List OccurrenceInTransit} {x : OccurrenceInTransit} (hheld : s.held = false)
  (harriving : s.event.arriving = before ++ x :: after) (hbefore : ∀ y ∈ before, y.occurrence.source ≠ x.occurrence.source)
include hheld harriving hbefore

theorem occurrenceArrival_gives :
    Gives (.occurrenceArrival x.occurrence.source.val) s
      ((stillArriving s (before ++ after)).arrive x.occurrence) := by
  have hnot : ∀ y ∈ before, decide (y.occurrence.source = x.occurrence.source) = false := fun y hy =>
    decide_eq_false (hbefore y hy)
  have hfind := find?_oldest harriving hnot (by simp)
  have herase := eraseP_oldest harriving hnot (by simp)
  change execOccurrenceArrival x.occurrence.source.val s = _
  simp only [execOccurrenceArrival, number?_eq_some.2 (rfl : x.occurrence.source.val = x.occurrence.source.val), hfind, herase]
  exact if_neg (by simp [hheld])

end

section
variable {s : State} {o : Occurrence}

/-- An occurrence that makes no claim, or of a source that does not capture, latches (R5, R11). -/
theorem arrive_of_not_captured
    (h : (s.source o.source).mask = .masked ∨ (s.source o.source).mode = .report ∨ 36 ≤ o.source.val) :
    s.arrive o = s.setSource o.source ((s.source o.source).latch (o.timeAt s.timer.timeBase)) := by
  obtain hlatch | ⟨c, hclaim, hmask, hmode, -⟩ := s.arrive_cases o
  · exact hlatch
  · obtain h | h | h := h
    · exact absurd (hmask.symm.trans h) (by decide)
    · exact absurd (hmode.symm.trans h) (by decide)
    · exact absurd (Occurrence.source_lt_of_claim hclaim) (by omega)

theorem arrive_of_captured {c : Claim} (hclaim : o.claim? = some c) (hmask : (s.source o.source).mask = .unmasked)
    (hmode : (s.source o.source).mode = .capture) : s.arrive o = s.captureClaim o.source c := by
  unfold State.arrive
  simp only [hclaim, hmask, hmode, and_self, if_true]

/-- A latch counts up to 255 and keeps the first time and the cause (R6). -/
theorem latchAccount_some (time : Time) (a : Account) :
    latchAccount time (some a) =
      { count := if a.count < 255 then a.count + 1 else 255, cause := a.cause, first := a.first, last := some time } := by
  simp only [latchAccount, Account.mk.injEq, and_true]
  split <;> omega

end

theorem latch_eq (r : SourceRecord) (time : Time) :
    r.latch time =
      { r with
        account := some
          (match r.account with
          | none => { count := 1, cause := .occurrence, first := time, last := none }
          | some a =>
            { count := if a.count < 255 then a.count + 1 else 255, cause := a.cause, first := a.first,
              last := some time }) } := by
  obtain ⟨mask, level, mode, ring, budget, account⟩ := r
  cases account with
  | none => rfl
  | some a =>
    exact congrArg (fun x => SourceRecord.mk mask level mode ring budget (some x)) (latchAccount_some time a)

/-! ### A capture claim -/

section
variable (s : State) (n : Fin 42) (c : Claim)

theorem captureClaim_of_full (hfull : (s.ring (s.source n).ring).records.length = 64) :
    s.captureClaim n c = s.setSource n ((s.source n).escalate c.time .ringFull) := by
  obtain ⟨-, h⟩ | ⟨hroom, -⟩ := s.captureClaim_cases n c
  · exact h
  · omega

theorem captureClaim_of_room (hroom : (s.ring (s.source n).ring).records.length < 64) :
    s.captureClaim n c =
      { s with
        capture := { s.capture with
          rings := s.capture.rings.set (s.source n).ring
            ((s.ring (s.source n).ring).append ((s.ring (s.source n).ring).recordFor n c s.input.filteredLevels)) }
        event := { s.event with
          sources := s.event.sources.set n ((s.source n).spend c.time)
          arriving := s.event.arriving ++
            (if (s.ring (s.source n).ring).watermark ≠ 0 ∧
                (s.ring (s.source n).ring).records.length + 1 = (s.ring (s.source n).ring).watermark then
              [{ occurrence := .crossing (s.source n).ring s.timer.timeBase, age := 0 }]
            else []) } } := by
  unfold State.captureClaim
  dsimp only
  rw [if_neg (by simpa [Config.ringCapacity] using hroom)]
  by_cases hcross : (s.ring (s.source n).ring).watermark ≠ 0 ∧
      (s.ring (s.source n).ring).records.length + 1 = (s.ring (s.source n).ring).watermark
  · rw [if_pos (by simpa [Ring.crossesAt] using hcross), if_pos hcross]
    rfl
  · rw [if_neg (by simpa [Ring.crossesAt] using hcross), if_neg hcross, List.append_nil]
    rfl

variable {r : SourceRecord} (time : Time)

theorem spend_of_more (h : 2 ≤ r.budget) : r.spend time = { r with budget := r.budget - 1 } :=
  if_neg (by omega)

theorem spend_of_last (h : r.budget = 1) : r.spend time = r.escalate time .budgetEnd :=
  if_pos (by omega)

end

/-! ### The arrival of a trigger -/

section
variable (t : IntervalTimer) (channel : Fin 32) (age : Nat)

theorem triggered_of_match (h : t.mode = .onTrigger ∧ t.trigger = some channel) :
    t.triggered channel age = { t with phase := .running, remaining := t.period * 100 - age } :=
  if_pos h

theorem triggered_of_no_match (h : ¬ (t.mode = .onTrigger ∧ t.trigger = some channel)) : t.triggered channel age = t :=
  if_neg h

end

theorem triggerArrival_gives {s : State} {before after : List TriggerInTransit} {x : TriggerInTransit} (hheld : s.held = false)
    (harriving : s.timer.arriving = before ++ x :: after) (hbefore : ∀ y ∈ before, y.channel ≠ x.channel) :
    Gives (.triggerArrival x.channel.val) s
      { s with
        timer := { s.timer with
          timers := s.timer.timers.map fun t => t.triggered x.channel x.age
          arriving := before ++ after } } := by
  have hnot : ∀ y ∈ before, decide (y.channel = x.channel) = false := fun y hy => decide_eq_false (hbefore y hy)
  have hfind := find?_oldest harriving hnot (by simp)
  have herase := eraseP_oldest harriving hnot (by simp)
  change execTriggerArrival x.channel.val s = _
  simp only [execTriggerArrival, number?_eq_some.2 (rfl : x.channel.val = x.channel.val), hfind, herase]
  exact if_neg (by simp [hheld])

/-! ### The expiries -/

theorem expired_eq (t : IntervalTimer) :
    t.expired =
      match t.mode with
      | .off | .once => { t with mode := .off, phase := .stopped, remaining := 0 }
      | .repeating => { t with phase := .running, remaining := t.period * 100 }
      | .onTrigger => { t with phase := .waiting, remaining := 0 } := by
  obtain ⟨mode, phase, period, remaining, trigger⟩ := t
  cases mode <;> rfl

theorem exec_timerExpiry (s : State) (n : Fin 4) :
    exec (.timerExpiry n.val) s =
      if !s.held && (s.intervalTimer n).isDue then
        .next ((s.setIntervalTimer n (s.intervalTimer n).expired).raise (.expiry n s.timer.timeBase))
      else .next s := by
  change execTimerExpiry n.val s = _
  simp only [execTimerExpiry, number?_eq_some.2 (rfl : n.val = n.val)]

theorem exec_silenceExpiry (s : State) :
    exec .silenceExpiry s =
      if !s.held && decide (s.protection.silenceTimer = some 0) then
        .next (({ s with protection := { s.protection with silenceTimer := none } }.holdClaim .silence).raise .silence)
      else .next s := rfl

end Sys2Proof.Slice0

open Sys2Proof Sys2Proof.Machine Sys2Proof.Slice0

/-- Settles O21: the arrival takes the oldest occurrence, and a source that does not capture latches it. -/
theorem arrivingOccurrenceLatches : Obligations.ArrivingOccurrenceLatches := by
  intro s before after x hheld harriving hbefore hnot
  have hgives := occurrenceArrival_gives hheld harriving hbefore
  rw [arrive_of_not_captured (s := stillArriving s (before ++ after)) hnot] at hgives
  rw [latch_eq] at hgives
  exact hgives

/-- Settles O22: with room the claim appends and spends, with the ring full it escalates. -/
theorem captureClaimAppendsOrEscalates : Obligations.CaptureClaimAppendsOrEscalates := by
  intro s before after x c hheld harriving hbefore hclaim hmask hmode
  have hgives := occurrenceArrival_gives hheld harriving hbefore
  rw [arrive_of_captured (s := stillArriving s (before ++ after)) hclaim hmask hmode] at hgives
  refine ⟨fun hbudget hroom => ?append, fun hfull => ?full⟩
  case append =>
    rw [captureClaim_of_room (stillArriving s (before ++ after)) _ _ hroom] at hgives
    refine ⟨_, hgives, Table.get_set_same .., fun r hr => Table.get_set_other _ _ hr.symm, fun hmore => ?_, fun hlast => ?_,
      fun n hn => Table.get_set_other _ _ hn.symm, rfl, rfl, rfl, rfl, rfl, rfl, rfl, rfl⟩
    · exact (Table.get_set_same ..).trans (spend_of_more _ hmore)
    · exact (Table.get_set_same ..).trans (spend_of_last _ hlast)
  case full =>
    rw [captureClaim_of_full (stillArriving s (before ++ after)) _ _ hfull] at hgives
    exact hgives

/-- Settles O23: the oldest trigger of the channel acts on every timer, each by its own settings. -/
theorem triggerStartsItsTimers : Obligations.TriggerStartsItsTimers := by
  intro s before after x hheld harriving hbefore
  refine ⟨_, triggerArrival_gives hheld harriving hbefore, rfl, fun n hmatch => ?_, fun n hmatch => ?_, rfl, rfl, rfl, rfl, rfl,
    rfl, rfl, rfl, rfl⟩
  · exact (Table.get_map ..).trans (triggered_of_match _ _ _ hmatch)
  · exact (Table.get_map ..).trans (triggered_of_no_match _ _ _ hmatch)

/-- Settles O24: a timer is due exactly at remaining 0, and the change by its mode is the model's. -/
theorem timerAndSilenceExpiriesSendTheirOccurrences : Obligations.TimerAndSilenceExpiriesSendTheirOccurrences := by
  refine ⟨fun s n hheld hrunning => ⟨fun hzero hmode => ?expired, fun hleft => ?left⟩, fun s hheld hzero => ?silence⟩
  case expired =>
    have hdue : (s.intervalTimer n).isDue = true := IntervalTimer.isDue_iff.2 ⟨hrunning, hzero⟩
    refine (exec_timerExpiry s n).trans ((if_pos (by simp [hheld, hdue])).trans ?_)
    rw [expired_eq]
    rfl
  case left =>
    have hdue : (s.intervalTimer n).isDue ≠ true := fun h => hleft (IntervalTimer.isDue_iff.1 h).2
    exact (exec_timerExpiry s n).trans (if_neg (by simp [hdue]))
  case silence => exact (exec_silenceExpiry s).trans (if_pos (by simp [hheld, hzero]))
end

section
/-! PROOFS. The receiver (8.1 to 8.4): the line, characters, and frames. -/

namespace Sys2Proof.Slice0

open Sys2Proof.Machine

/-! ### Frames in the buffer -/

section
variable {lead length kind sequence high low : Byte} {payload : List Byte}

/-- A frame with all its characters, as many as its length byte says (R136). -/
theorem completeFrame?_of_frame (hlength : payload.length = length.toNat) :
    completeFrame? ([lead, length, kind, sequence] ++ payload ++ [high] ++ [low]) =
      some ({ kind := kind, sequence := sequence, payload := payload },
        decide ([high, low] = bytes16 (crcOf ([length, kind, sequence] ++ payload)))) := by
  have hrest : (payload ++ [high, low]).length = length.toNat + 2 := by simp [hlength]
  simp only [List.append_assoc, List.cons_append, List.nil_append, completeFrame?, if_pos hrest, List.take_left' hlength,
    List.drop_left' hlength]

/-- A buffer that has not the length its length byte asks for is not complete. -/
theorem completeFrame?_of_other_length {buffer : List Byte}
    (h : ∀ length ∈ buffer[1]?, buffer.length ≠ length.toNat + 6) : completeFrame? buffer = none := by
  unfold completeFrame?
  split
  · rename_i length kind sequence rest
    have hne := h length rfl
    rw [if_neg]
    intro heq
    simp [heq] at hne
  · rfl

end

/-- One more character does not complete a frame that is longer by its length byte. -/
theorem completeFrame?_append_of_short {buffer : List Byte} {data : Byte}
    (h : ∀ length ∈ buffer[1]?, buffer.length + 1 ≠ length.toNat + 6) : completeFrame? (buffer ++ [data]) = none := by
  refine completeFrame?_of_other_length fun length hlength heq => ?_
  have hcount : buffer.length + 1 = length.toNat + 6 := by simpa using heq
  rw [List.getElem?_append_left (by omega)] at hlength
  exact h length hlength hcount

/-! ### What a valid frame does -/

theorem validSignal_eq_signalled (s : State) : s.validSignal = signalled s := by
  obtain ⟨held, input, timer, event, capture, ⟨stack, gate, mode, counter, takeTimer, takeTimeout, retry, reentry⟩,
    ⟨enable, level, code, active, timeout, silenceTimer⟩, output, link, command, choices, pending⟩ := s
  by_cases htimeout : timeout = 0 <;> cases mode <;>
    simp [State.validSignal, signalled, htimeout, silenceTimerFor, silenceTime, Notes.add]

theorem dispose_eq_disposed (s : State) (r : Request) : s.dispose r = disposed s r := by
  have hduplicate : ((s.command.logged? r.sequence).isSome && s.command.isWaiting r.sequence) = true ↔
      (∃ e ∈ s.command.replyLog, e.sequence = r.sequence) ∧ ∃ f ∈ s.command.replyQueue, f.sequence = r.sequence := by
    rw [Bool.and_eq_true, CommandUnit.isWaiting_iff]
    simp [CommandUnit.logged?, List.find?_isSome]
  unfold State.dispose disposed
  by_cases hwindow : s.command.window = true
  · rw [if_pos hwindow, if_pos hwindow]
  · rw [if_neg hwindow, if_neg hwindow]
    cases hintake : s.link.intake with
    | some q => exact (if_pos (by simp)).symm
    | none =>
      rw [if_neg (not_not.2 rfl)]
      exact if_congr hduplicate rfl rfl

/-! ### A character on the line -/

/-- The receiver idle after a character, its frame as it was. -/
abbrev receiverIdle (s : State) : State := { s with link := { s.link with line := .idle, gap := 0 } }

/-- The receiver idle within a frame whose characters so far are these. -/
abbrev assembling (s : State) (buffer : List Byte) : State :=
  { s with link := { s.link with line := .idle, gap := 0, frame := .assembling, buffer := buffer } }

theorem characterReceived_gives {s : State} {elapsed : Nat} (hheld : s.held = false) (hline : s.link.line = .inCharacter elapsed)
    (data : Byte) (parity stop : Bool) :
    Gives (.characterReceived data parity stop) s
      ((receiverIdle s).frameCharacter data (characterConditions data parity stop)) := by
  change execCharacterReceived data parity stop s = _
  rw [execCharacterReceived, if_neg (by simp [hheld]), hline]

theorem characterConditions_eq_nil_iff {data : Byte} {parity stop : Bool} :
    characterConditions data parity stop = [] ↔ parity = oddOnes data ∧ stop = true := by
  cases stop <;> by_cases h : parity = oddOnes data <;> simp [characterConditions, h]

/-- The notes of a character's conditions join the set (R142, R146). -/
theorem foldl_add_characterConditions (notes : Notes) (data : Byte) (parity stop : Bool) :
    (characterConditions data parity stop).foldl Notes.add notes =
      { notes with
        parity := notes.parity || decide (parity ≠ oddOnes data)
        framing := notes.framing || !stop } := by
  cases stop <;> by_cases h : parity = oddOnes data <;> simp [characterConditions, h, Notes.add]

section
variable {s : State} {data : Byte} {conditions : List Note}

theorem frameCharacter_of_lead (hframe : s.link.frame = .hunting) :
    s.frameCharacter 0xA6 [] = { s with link := { s.link with frame := .assembling, buffer := [0xA6] } } := by
  simp [State.frameCharacter, hframe]

theorem frameCharacter_of_ignored (hframe : s.link.frame = .hunting) (h : conditions ≠ [] ∨ data ≠ 0xA6) :
    s.frameCharacter data conditions = s := by
  rw [State.frameCharacter, hframe]
  exact if_neg (by tauto)

theorem frameCharacter_of_conditions (hframe : s.link.frame = .assembling) (h : conditions ≠ []) :
    s.frameCharacter data conditions = { s with link := s.link.discardFrame conditions } := by
  rw [State.frameCharacter, hframe]
  exact if_neg h

theorem frameCharacter_of_clean (hframe : s.link.frame = .assembling) : s.frameCharacter data [] = s.assemble data := by
  rw [State.frameCharacter, hframe]
  exact if_pos rfl

theorem assemble_of_long (hlength : s.link.buffer.length = 1) (hdata : 80 < data.toNat) :
    s.assemble data = { s with link := s.link.discardFrame [.length] } :=
  if_pos ⟨by simp [hlength], hdata⟩

theorem not_long (h : s.link.buffer.length = 1 → data.toNat ≤ 80) :
    ¬ ((s.link.buffer ++ [data]).length = 2 ∧ Config.maxPayload < data.toNat) := by
  rintro ⟨hlength, hdata⟩
  exact absurd (h (by simpa using hlength)) (not_le.2 hdata)

theorem assemble_of_short (hdata : s.link.buffer.length = 1 → data.toNat ≤ 80)
    (hshort : completeFrame? (s.link.buffer ++ [data]) = none) :
    s.assemble data = { s with link := { s.link with buffer := s.link.buffer ++ [data] } } := by
  rw [State.assemble]
  dsimp only
  rw [if_neg (not_long hdata), hshort]

theorem assemble_of_wrong_crc (hdata : s.link.buffer.length = 1 → data.toNat ≤ 80) {r : Request}
    (hcomplete : completeFrame? (s.link.buffer ++ [data]) = some (r, false)) :
    s.assemble data = { s with link := s.link.discardFrame [.crc] } := by
  rw [State.assemble]
  dsimp only
  rw [if_neg (not_long hdata), hcomplete]

theorem assemble_of_valid (hdata : s.link.buffer.length = 1 → data.toNat ≤ 80) {r : Request}
    (hcomplete : completeFrame? (s.link.buffer ++ [data]) = some (r, true)) :
    s.assemble data =
      disposed (signalled { s with link := { s.link with frame := .hunting, buffer := [] } }) r := by
  rw [State.assemble]
  dsimp only
  rw [if_neg (not_long hdata), hcomplete, ← validSignal_eq_signalled, ← dispose_eq_disposed]

end

end Sys2Proof.Slice0

open Sys2Proof Sys2Proof.Machine Sys2Proof.Slice0

/-- Settles O32: each of the four commands when its moment is there. -/
theorem lineStepsOfTheReceiver : Obligations.LineStepsOfTheReceiver := by
  intro s hheld
  refine ⟨fun hline => ?start, fun hline => ?breakEnd, fun elapsed hline htime => ⟨fun hframe => ?hunting, fun hframe => ?discarded⟩,
    fun hframe hline htime => ?gap⟩
  case start =>
    change execStartBit s = _
    rw [execStartBit, if_neg (by simp [hheld]), hline]
  case breakEnd =>
    change execBreakEnd s = _
    rw [execBreakEnd, if_neg (by simp [hheld]), hline]
  case hunting =>
    change execBreakLimit s = _
    rw [execBreakLimit, if_pos (by simp [hheld, breakDue_iff.2 ⟨elapsed, hline, htime⟩]), hframe]
  case discarded =>
    change execBreakLimit s = _
    rw [execBreakLimit, if_pos (by simp [hheld, breakDue_iff.2 ⟨elapsed, hline, htime⟩]), hframe]
    rfl
  case gap => exact if_pos (by simp [hheld, gapDue_iff.2 ⟨hframe, hline, htime⟩])

/-- Settles O33: the level of the character, the state of the receiver and the length of the buffer decide. -/
theorem charactersAreTakenIgnoredOrDiscardTheFrame : Obligations.CharactersAreTakenIgnoredOrDiscardTheFrame := by
  intro s data parity stop elapsed hheld hline
  have hgives := characterReceived_gives hheld hline data parity stop
  refine ⟨fun hframe hparity hstop hdata => ?lead, fun hframe hother => ?ignored, fun hframe hcondition => ?condition,
    fun hframe hparity hstop hlength hlong => ?long,
    fun lead length kind sequence payload high hframe hparity hstop hbuffer hlength hcrc => ?crc,
    fun hframe hparity hstop hdata hshort => ?joins⟩
  case lead =>
    subst hdata
    rw [characterConditions_eq_nil_iff.2 ⟨hparity, hstop⟩, frameCharacter_of_lead (s := receiverIdle s) hframe] at hgives
    exact hgives
  case ignored =>
    rwa [frameCharacter_of_ignored (s := receiverIdle s) hframe ?_] at hgives
    rw [Ne, characterConditions_eq_nil_iff]
    cases stop <;> tauto
  case condition =>
    rw [frameCharacter_of_conditions (s := receiverIdle s) hframe ?_, LinkUnit.discardFrame, foldl_add_characterConditions] at hgives
    · exact hgives
    · rw [Ne, characterConditions_eq_nil_iff]
      cases stop <;> tauto
  case long =>
    rw [characterConditions_eq_nil_iff.2 ⟨hparity, hstop⟩, frameCharacter_of_clean (s := receiverIdle s) hframe, assemble_of_long (s := receiverIdle s) hlength hlong]
      at hgives
    exact hgives
  case crc =>
    have hcomplete := completeFrame?_of_frame (lead := lead) (kind := kind) (sequence := sequence) (high := high) (low := data)
      hlength
    rw [← hbuffer, decide_eq_false hcrc] at hcomplete
    rw [characterConditions_eq_nil_iff.2 ⟨hparity, hstop⟩, frameCharacter_of_clean (s := receiverIdle s) hframe,
      assemble_of_wrong_crc (s := receiverIdle s) (fun h => absurd h (by simp [hbuffer])) hcomplete] at hgives
    exact hgives
  case joins =>
    rw [characterConditions_eq_nil_iff.2 ⟨hparity, hstop⟩, frameCharacter_of_clean (s := receiverIdle s) hframe,
      assemble_of_short (s := receiverIdle s) hdata (completeFrame?_append_of_short hshort)] at hgives
    exact hgives

/-- Settles O34: the last character completes the frame, and signal and disposal are the spec's. -/
theorem validFrameSignalsAndIsDisposedOf : Obligations.ValidFrameSignalsAndIsDisposedOf := by
  intro s elapsed lead length kind sequence high low payload hheld hline hframe hbuffer hlength hcrc
  have hcomplete := completeFrame?_of_frame (lead := lead) (kind := kind) (sequence := sequence) (high := high) (low := low)
    hlength
  rw [← hbuffer, decide_eq_true hcrc] at hcomplete
  have hgives := characterReceived_gives hheld hline low (oddOnes low) true
  rw [characterConditions_eq_nil_iff.2 ⟨rfl, rfl⟩, frameCharacter_of_clean (s := receiverIdle s) hframe,
    assemble_of_valid (s := receiverIdle s) (fun h => absurd h (by simp [hbuffer])) hcomplete] at hgives
  exact hgives
end

section
/-! PROOFS. A whole frame on the line (8.1 to 8.4): its characters one after another. -/

namespace Sys2Proof.Slice0

open Sys2Proof.Machine

/-! ### Commands one after another -/

theorem runCommands_cons {c : Instr} {rest : List Instr} {s t : State} (h : exec c s = .next t) :
    runCommands (c :: rest) s = runCommands rest t := by
  simp only [runCommands, h]

theorem runCommands_cons_eq_next {c : Instr} {rest : List Instr} {s t : State} (h : runCommands (c :: rest) s = .next t) :
    ∃ u, exec c s = .next u ∧ runCommands rest u = .next t := by
  rw [runCommands] at h
  cases hc : exec c s with
  | next u => exact ⟨u, rfl, by simpa only [hc] using h⟩
  | fault r => simp only [hc, reduceCtorEq] at h
  | refused r => simp only [hc, reduceCtorEq] at h

theorem runCommands_append {front rest : List Instr} {s t : State} (h : runCommands front s = .next t) :
    runCommands (front ++ rest) s = runCommands rest t := by
  induction front generalizing s with
  | nil =>
    cases h
    rfl
  | cons c others ih =>
    obtain ⟨u, hc, hothers⟩ := runCommands_cons_eq_next h
    exact (runCommands_cons hc).trans (ih hothers)

/-- A clean character at the idle receiver: its start bit, and its receipt (R133, R134). -/
theorem runCommands_character {s : State} (hheld : s.held = false) (hline : s.link.line = .idle) (b : Byte) :
    runCommands (characterCommands b) s = .next ((receiverIdle s).frameCharacter b []) := by
  have hstart : exec .startBit s = .next { s with link := { s.link with line := .inCharacter 0, gap := 0 } } := by
    change execStartBit s = _
    rw [execStartBit, if_neg (by simp [hheld]), hline]
  have hreceived := characterReceived_gives (s := { s with link := { s.link with line := .inCharacter 0, gap := 0 } })
    hheld rfl b (oddOnes b) true
  rw [characterConditions_eq_nil_iff.2 ⟨rfl, rfl⟩] at hreceived
  exact (runCommands_cons hstart).trans (runCommands_cons hreceived)

/-! ### The characters of a frame -/

/-- The characters of a frame: the lead byte, those up to the first of the CRC, and the last. -/
theorem frameBytes_eq (kind sequence : Byte) (payload : List Byte) :
    frameBytes kind sequence payload =
      [0xA6] ++ ([byteOf payload.length, kind, sequence] ++ payload ++
        [(crcOf ([byteOf payload.length, kind, sequence] ++ payload)).extractLsb' 8 8]) ++
        [(crcOf ([byteOf payload.length, kind, sequence] ++ payload)).extractLsb' 0 8] := by
  simp [frameBytes, bytes16]

section
variable {s : State} (hheld : s.held = false)
include hheld

/-- One more character joins the frame, short of its end by the length byte, which may be that character. -/
theorem runCommands_character_joins {buffer rest : List Byte} {b : Byte}
    (hlength : ∀ length ∈ (buffer ++ b :: rest)[1]?,
      length.toNat ≤ 80 ∧ (buffer ++ b :: rest).length < length.toNat + 6) :
    runCommands (characterCommands b) (assembling s buffer) = .next (assembling s (buffer ++ [b])) := by
  refine (runCommands_character (s := assembling s buffer) hheld rfl b).trans ?_
  rw [frameCharacter_of_clean (s := receiverIdle (assembling s buffer)) rfl, assemble_of_short ?long
    (completeFrame?_append_of_short ?short)]
  case long =>
    intro hone
    have hone : buffer.length = 1 := hone
    refine (hlength b ?_).1
    rw [List.getElem?_append_right (by omega)]
    simp [hone]
  case short =>
    intro length hmem
    change buffer.length + 1 ≠ length.toNat + 6
    have hin : 1 < buffer.length := (List.getElem?_eq_some_iff.1 hmem).1
    have hlt := (hlength length (by rwa [List.getElem?_append_left hin])).2
    simp only [List.length_append, List.length_cons] at hlt
    omega

/-- The characters of a frame after its lead byte join the buffer, as long as they are short of the frame's end. -/
theorem runCommands_joins {buffer rest : List Byte}
    (hlength : ∀ length ∈ (buffer ++ rest)[1]?, length.toNat ≤ 80 ∧ (buffer ++ rest).length < length.toNat + 6) :
    runCommands (rest.flatMap characterCommands) (assembling s buffer) = .next (assembling s (buffer ++ rest)) := by
  induction rest generalizing buffer with
  | nil =>
    rw [List.append_nil]
    rfl
  | cons b rest ih =>
    have hsplit : buffer ++ b :: rest = (buffer ++ [b]) ++ rest := by simp
    rw [List.flatMap_cons, runCommands_append (runCommands_character_joins hheld hlength), hsplit]
    rw [hsplit] at hlength
    exact ih hlength

end

end Sys2Proof.Slice0

open Sys2Proof Sys2Proof.Machine Sys2Proof.Slice0

/-- Settles O15: the lead byte begins the frame, the others join it, and the last makes it valid. -/
theorem everyFrameSentWholeIsReceived : Obligations.EveryFrameSentWholeIsReceived := by
  intro s kind sequence payload hheld hline hframe hpayload
  have hcount : (byteOf payload.length).toNat = payload.length := by
    rw [byteOf, BitVec.toNat_ofNat]
    omega
  have hlead : runCommands ([0xA6].flatMap characterCommands) s = .next (assembling s [0xA6]) := by
    refine (runCommands_character hheld hline 0xA6).trans ?_
    rw [frameCharacter_of_lead (s := receiverIdle s) hframe]
  have hjoins := runCommands_joins hheld (buffer := [0xA6]) (rest := [byteOf payload.length, kind, sequence] ++ payload ++
    [(crcOf ([byteOf payload.length, kind, sequence] ++ payload)).extractLsb' 8 8]) (fun length hlength => by
      obtain rfl : byteOf payload.length = length := by simpa using hlength
      simp only [List.length_append, List.length_cons, List.length_nil, hcount]
      omega)
  have hcomplete := completeFrame?_of_frame (lead := 0xA6) (kind := kind) (sequence := sequence)
    (high := (crcOf ([byteOf payload.length, kind, sequence] ++ payload)).extractLsb' 8 8)
    (low := (crcOf ([byteOf payload.length, kind, sequence] ++ payload)).extractLsb' 0 8) hcount.symm
  rw [decide_eq_true (by rfl)] at hcomplete
  rw [frameBytes_eq, List.flatMap_append, List.flatMap_append, List.append_assoc, runCommands_append hlead,
    runCommands_append hjoins]
  refine (runCommands_character (s := assembling s _) hheld rfl _).trans ?_
  rw [frameCharacter_of_clean rfl, assemble_of_valid (fun h => absurd h (by simp)) hcomplete]
  rfl
end

section
/-! PROOFS. The transmitter (8.6): the arbiter, TXD, the frames and their ends, and the restart at the end of its REPLY (9.6). -/

namespace Sys2Proof.Slice0

open Sys2Proof.Machine

/-! ### What the frames carry -/

theorem bytes_eq (f : OutFrame) :
    f.bytes =
      [0xA6, byteOf f.payload.length, f.kind, f.sequence] ++ f.payload ++
        bytes16 (crcOf ([byteOf f.payload.length, f.kind, f.sequence] ++ f.payload)) := by
  simp [OutFrame.bytes, frameBytes]

theorem length_bytes (f : OutFrame) : f.bytes.length = f.payload.length + 6 := by
  simp [bytes_eq, bytes16]

/-- The PING of 8.2.1, whose CRC is worked through there. -/
theorem frameBytes_of_ping : frameBytes 0x01 0x01 [] = [0xA6, 0x00, 0x01, 0x01, 0xEF, 0x8C] := by
  decide +kernel

/-- The bits of a set of at most eight items stand in their order, and the rest are 0 (R169). -/
theorem bits_flagsValue (l : List Bool) (h : l.length ≤ 8) :
    (List.range 8).map (fun i => (BitVec.ofNat 8 (flagsValue l)).getLsbD i) = l ++ List.replicate (8 - l.length) false := by
  refine List.ext_getElem (by simp; omega) fun i hi _ => ?_
  have hi : i < 8 := by simpa using hi
  rw [List.getElem_map, List.getElem_range, getLsbD_flagsValue _ hi, List.getD_eq_getElem?_getD, List.getElem_append]
  split
  · rename_i hin
    rw [List.getElem?_eq_getElem hin, Option.getD_some]
  · rename_i hout
    rw [List.getElem?_eq_none (not_lt.1 hout), Option.getD_none, List.getElem_replicate]

theorem formByte_eq (r : CaptureRecord) :
    r.formByte =
      if r.snapshot = none then (match r.kind with | .rise => 0x00 | .fall => 0x01 | .expiry => 0x02)
      else (match r.kind with | .rise => 0x80 | .fall => 0x81 | .expiry => 0x82) := by
  obtain ⟨sequence, source, kind, time, snapshot⟩ := r
  cases snapshot <;> cases kind <;> rfl

/-! ### TXD -/

/-- The parity of a run of bits is that of the number of ones among them. -/
theorem foldr_xor_eq_odd_count (p : Nat → Bool) (l : List Nat) :
    l.foldr (fun i odd => p i ^^ odd) false = decide ((l.filter p).length % 2 = 1) := by
  induction l with
  | nil => rfl
  | cons i rest ih =>
    rw [List.foldr_cons, ih, List.filter_cons]
    cases p i with
    | false => simp
    | true =>
      rw [if_pos rfl, List.length_cons, Bool.true_xor, ← decide_not, decide_eq_decide]
      omega

theorem oddOnes_eq (b : Byte) : oddOnes b = decide (onesOf b % 2 = 1) := by
  rw [onesOf, ← foldr_xor_eq_odd_count]
  simp [oddOnes, List.range_succ]

theorem characterBits_getElem? (b : Byte) {j : Nat} (hj : j < 11) : (characterBits b)[j]? = some (characterBit b j) := by
  have hparity := oddOnes_eq b
  interval_cases j <;> simp [characterBits, characterBit, hparity]

/-- Bit `j` of character `k` stands at `11 * k + j`: the characters follow one another (R133, R148). -/
theorem flatMap_characterBits_getElem? {bytes : List Byte} {k j : Nat} {b : Byte} (hb : bytes[k]? = some b) (hj : j < 11) :
    (bytes.flatMap characterBits)[11 * k + j]? = some (characterBit b j) := by
  induction bytes generalizing k with
  | nil => simp at hb
  | cons first rest ih =>
    have hlength : (characterBits first).length = 11 := rfl
    rw [List.flatMap_cons]
    cases k with
    | zero =>
      obtain rfl : first = b := by simpa using hb
      rw [Nat.mul_zero, Nat.zero_add, List.getElem?_append_left (by omega), characterBits_getElem? first hj]
    | succ k =>
      rw [List.getElem?_append_right (by omega), show 11 * (k + 1) + j - (characterBits first).length = 11 * k + j by omega]
      exact ih (by simpa using hb)

theorem length_flatMap_characterBits (bytes : List Byte) : (bytes.flatMap characterBits).length = 11 * bytes.length := by
  induction bytes with
  | nil => rfl
  | cons b rest ih =>
    rw [List.flatMap_cons, List.length_append, ih, List.length_cons]
    change 11 + _ = _
    omega

theorem bitUnits_pos (rate : BitVec 2) : 0 < bitUnits rate := by
  unfold bitUnits
  split <;> decide

/-! ### The end of a frame -/

/-- The state in which the report of a frame's end is acted on: the transmitter is free. -/
abbrev transmitterFree (s : State) : State := { s with link := { s.link with sending := none } }

section
variable {s : State}

theorem frameEnd_gives {x : Sending} (hheld : s.held = false) (hsending : s.link.sending = some x)
    (htime : (x.frame.payload.length + 6) * characterUnits s.link.rate ≤ x.elapsed) :
    Gives .frameEnd s ((transmitterFree s).endReport x.frame) := by
  have hdue : s.link.frameDue = true := frameDue_iff.2 ⟨x, hsending, htime⟩
  change execFrameEnd s = _
  rw [execFrameEnd, hsending]
  exact if_pos (by simp [hheld, hdue])

/-- The end of the notice of the innermost entry, still OFFERED, starts its take timer (R37). -/
theorem startTakeTimer_of_offered {n : EventNotice} {e : Entry} {rest : List Entry} (hstack : s.delivery.stack = e :: rest)
    (hphase : e.phase = .offered) (hnotice : e.notice = n.notice) (hwindow : s.command.window = false)
    (hslot : s.link.noticeSlot = none) :
    s.startTakeTimer n =
      { s with delivery := { s.delivery with takeTimer := some (s.delivery.takeTimeout * 4000) } } := by
  have hoffered : s.delivery.offered? = some e := by
    rw [DeliveryUnit.offered?, hstack]
    exact List.find?_cons_of_pos (by simp [hphase])
  rw [State.startTakeTimer, hoffered]
  exact if_pos ⟨hnotice, hwindow, hslot⟩

theorem startTakeTimer_of_not_offered {n : EventNotice}
    (h : (∀ e ∈ s.delivery.stack, ¬ (e.phase = .offered ∧ e.notice = n.notice)) ∨ s.command.window = true ∨
      s.link.noticeSlot ≠ none) : s.startTakeTimer n = s := by
  unfold State.startTakeTimer
  split
  · rename_i e he
    refine if_neg ?_
    rintro ⟨hnotice, hwindow, hslot⟩
    obtain h | h | h := h
    · have hphase := List.find?_some (p := fun e => decide (Entry.phase e = .offered)) he
      exact h e (List.mem_of_find?_eq_some he) ⟨of_decide_eq_true hphase, hnotice⟩
    · exact absurd (hwindow.symm.trans h) (by decide)
    · exact h hslot
  · rfl

/-- No answer but the REPLY to RESTART is acted on at its end (R148). -/
theorem endReport_of_answer {f : AnswerFrame} (h : ∀ data, f.answer ≠ .reply 0x1A data) : s.endReport (.answer f) = s := by
  obtain ⟨sequence, answer, notes⟩ := f
  cases answer with
  | reply kind data =>
    refine if_neg fun hkind => h data ?_
    rw [hkind]
    rfl
  | refused kind code detail => rfl

theorem endReport_of_restart {f : AnswerFrame} {data : List Byte} (h : f.answer = .reply 0x1A data) :
    s.endReport (.answer f) = s.restartNow := by
  obtain ⟨sequence, answer, notes⟩ := f
  obtain rfl : answer = .reply 0x1A data := h
  rfl

end

/-! ### The arbiter -/

section
variable {s t : State}

theorem arbiterChoice_gives (h : s.arbitrate? = some t) : Gives .arbiterChoice s t := by
  change execArbiterChoice s = _
  rw [execArbiterChoice, h]

end

/-! ### Replays -/

/-- With distinct sequence numbers in the log, the entry of the request is the one found (R159, R160). -/
theorem logged?_of_nodup {c : CommandUnit} {e : LogEntry} {q : Byte} (he : e ∈ c.replyLog) (hq : e.sequence = q)
    (hnodup : (c.replyLog.map LogEntry.sequence).Nodup) : c.logged? q = some e := by
  cases h : c.logged? q with
  | none => exact absurd hq (CommandUnit.logged?_eq_none.1 h e he)
  | some x =>
    have hfound := List.find?_some (p := fun e => decide (LogEntry.sequence e = q)) h
    rw [List.inj_on_of_nodup_map hnodup (List.mem_of_find?_eq_some h) he ((of_decide_eq_true hfound).trans hq.symm)]

end Sys2Proof.Slice0

open Sys2Proof Sys2Proof.Machine Sys2Proof.Slice0

/-- Settles O35: the arbiter looks at the three places in their order. -/
theorem arbiterServesStartThenRepliesThenEvents : Obligations.ArbiterServesStartThenRepliesThenEvents := by
  intro s hheld hsending
  have hrun : ¬ s.held = true := by simp [hheld]
  refine ⟨fun n hstart => ?_, fun f rest hstart hqueue => ?_, fun e hstart hqueue hslot => ?_⟩
  · exact arbiterChoice_gives (by simp only [State.arbitrate?, if_neg hrun, hsending, hstart])
  · exact arbiterChoice_gives (by simp only [State.arbitrate?, if_neg hrun, hsending, hstart, hqueue])
  · exact arbiterChoice_gives (by simp only [State.arbitrate?, if_neg hrun, hsending, hstart, hqueue, hslot])

/-- Settles O36: the layouts are the model's, the sets bit by bit, and the values byte by byte. -/
theorem framesAndRecordsCarryTheirFields : Obligations.FramesAndRecordsCarryTheirFields := by
  refine ⟨bytes_eq, frameBytes_of_ping, fun _ _ _ _ => ⟨rfl, rfl, rfl⟩, fun _ _ _ _ _ => ⟨rfl, rfl, rfl⟩,
    fun e => ⟨rfl, rfl, ?event⟩, fun n => ⟨rfl, rfl, ?start⟩, fun notes => bits_flagsValue _ (by simp),
    fun causes => bits_flagsValue _ (by simp), fun w => ⟨_, _, _, _, rfl, (word32_extracted w).symm⟩,
    fun w => ⟨_, _, rfl, (word16_extracted w).symm⟩, fun r => ?record⟩
  case event =>
    obtain ⟨notice, attempt, source, level, ⟨count, cause, time, last⟩, depth⟩ := e
    cases level <;> cases cause <;> rfl
  case start =>
    obtain ⟨cause, outputState, causes, stopActive⟩ := n
    cases cause <;> cases outputState <;> rfl
  case record =>
    exact congrArg (fun form => bytes16 r.sequence ++ [form, byteOf r.source.val] ++ bytes32 r.time ++
      (match r.snapshot with | none => [] | some levels => bytes32 levels)) (formByte_eq r)

/-- Settles O37: the bit shown is the one whose bit time it is, and the parity bit is the parity of the ones. -/
theorem txdSendsTheFrameBitByBit : Obligations.TxdSendsTheFrameBitByBit := by
  refine ⟨fun s hsending => by rw [State.txd, hsending], fun s x hsending => ⟨fun k j b hb hj hfrom hto => ?bit, fun hend => ?sent⟩,
    by decide, by decide, by decide, by decide⟩
  case bit =>
    have hindex : x.elapsed / bitUnits s.link.rate = 11 * k + j := Nat.div_eq_of_lt_le hfrom hto
    rw [State.txd, hsending]
    dsimp only
    rw [hindex, List.getD_eq_getElem?_getD, flatMap_characterBits_getElem? hb hj, Option.getD_some]
  case sent =>
    have hindex : (x.frame.bytes.flatMap characterBits).length ≤ x.elapsed / bitUnits s.link.rate := by
      rw [length_flatMap_characterBits, length_bytes, Nat.le_div_iff_mul_le (bitUnits_pos _)]
      calc 11 * (x.frame.payload.length + 6) * bitUnits s.link.rate
          = (x.frame.payload.length + 6) * characterUnits s.link.rate := by rw [characterUnits]; ring
        _ ≤ x.elapsed := hend
    rw [State.txd, hsending]
    dsimp only
    rw [List.getD_eq_getElem?_getD, List.getElem?_eq_none hindex, Option.getD_none]

/-- Settles O38: what the end of each kind of frame is reported to. -/
theorem eventEndStartsTheTakeTimer : Obligations.EventEndStartsTheTakeTimer := by
  intro s x hheld hsending htime
  have hgives := frameEnd_gives hheld hsending htime
  refine ⟨fun n hframe => ⟨fun e rest hstack hphase hnotice hwindow hslot => ?_, fun hnot => ?_⟩, fun f hframe hanswer => ?_,
    fun n hframe => ?_⟩ <;> rw [hframe] at hgives
  · refine hgives.trans (congrArg Host.Outcome.next ?_)
    exact startTakeTimer_of_offered (s := transmitterFree s) hstack hphase hnotice hwindow hslot
  · refine hgives.trans (congrArg Host.Outcome.next ?_)
    exact startTakeTimer_of_not_offered (s := transmitterFree s) hnot
  · rwa [endReport_of_answer hanswer] at hgives
  · exact hgives

/-- Settles O39: the report of the end of that REPLY is the restart. -/
theorem restartTakesPlaceAtTheEndOfItsReply : Obligations.RestartTakesPlaceAtTheEndOfItsReply := by
  intro s x f data hheld hsending hframe hanswer htime
  have hgives := frameEnd_gives hheld hsending htime
  rw [hframe, endReport_of_restart hanswer] at hgives
  exact ⟨_, hgives, rfl, rfl, rfl, rfl,
    fun n => State.channel_of_map (s := s) (f := fun c => Channel.reset c.raw) rfl n, rfl, rfl, rfl, rfl, rfl, hheld, rfl⟩

/-- Settles O40: whether the answer waits decides; the entry of the log is the only one with the number. -/
theorem duplicatesAreDiscardedOrReplayed : Obligations.DuplicatesAreDiscardedOrReplayed := by
  intro s r e hheld hwindow hintake he hsequence hnodup
  have hstanding : s.standing? = some r := State.standing?_eq_some.2 ⟨hheld, hwindow, hintake⟩
  have hlogged := logged?_of_nodup he hsequence hnodup
  refine ⟨fun hwaits => ?_, fun hnone hroom => ?_⟩
  · have hwaiting := CommandUnit.isWaiting_iff.2 hwaits
    change execReplay s = _
    simp only [execReplay, State.replayed?, hstanding, hlogged, if_pos hwaiting]
    rfl
  · have hwaiting : ¬ s.command.isWaiting r.sequence = true := by
      rw [CommandUnit.isWaiting_iff]
      rintro ⟨f, hf, hfs⟩
      exact hnone f hf hfs
    have hroom : s.command.replyQueue.length < Config.replyCapacity := hroom
    change execReplay s = _
    simp only [execReplay, State.replayed?, hstanding, hlogged, if_neg hwaiting, if_pos hroom]
    rfl
end
